-- ==== Sys2Proof/Word.lean ====
section
/-! DEFINITION. The words of the block. Bit 0 is the least significant bit everywhere (spec/00_scope.md
rule R8). The widths of `FC`, `SC`, of the thresholds, of an LED index and of a command word are
parameters (rules R6 and R7, decisions D4 and D5), so a value of one of them is an unsigned number, a
`Nat`; every operation that R96 (a) lists narrows its result to the width, and `FitsWidths` of
`Sys2Proof/Safety.lean` says that each register stays below 2 to the power of its width (log entry 16).
The two words whose width no legal parameter set changes are bit vectors. -/

namespace Sys2Proof

/-- The LED pattern of `LED_OUT`, `NUM_LEDS` = 4 bits, bit `i` being logical LED `i` (R18, R66). -/
abbrev LedPattern := BitVec 4

/-- The event vector `ev[2:0] = {step_en, slow_tick, fast_tick}` (R46). -/
abbrev EvVec := BitVec 3

end Sys2Proof
end

