-- ==== Sys2Proof/Config.lean ====
section
/-! DEFINITION. What one implementation fixes (spec/00_scope.md rules R5, R6, R7) and the values the spec
leaves free (spec/93_implementation_defined.md U7). The parameters that a legal set may choose, the widths
among them, are a record that every operation takes as an argument. The machine under the host's fixed names
(`Sys2Proof.core`) is the block with the defaults; `Sys2Proof.Machine.coreFor` is the block with any set
(log entry 1). -/

namespace Sys2Proof.Config

/-- The parameters a legal set may choose (R5, R6, R7). -/
structure Params where
  /-- `PERIOD`, fast-tick units per PWM cycle. -/
  period : Nat
  /-- `PULSE_RATE`, the slow-tick gate of the pulse ramp. -/
  pulseRate : Nat
  /-- `SLOW_INC`, what one slow tick adds to `SC`. -/
  slowInc : Nat
  /-- `FC_WIDTH`, bits of `FC` (D4). -/
  fcWidth : Nat
  /-- `SC_WIDTH`, bits of `SC` (D5). -/
  scWidth : Nat
  /-- `TH_WIDTH`, bits of `GTH`, `RAMP` and the `arg` field (D6). -/
  thWidth : Nat
  /-- `DIR_WIDTH`, bits of `DIR` (D7). -/
  dirWidth : Nat
  /-- `LED_IDX_WIDTH`, bits of `LEDSEL` and the `led` field (D8). -/
  ledIdxWidth : Nat
deriving DecidableEq, Repr

/-- The defaults of R5 and R6. -/
def params : Params :=
  { period := 500, pulseRate := 10, slowInc := 5, fcWidth := 16, scWidth := 16, thWidth := 9,
    dirWidth := 2, ledIdxWidth := 4 }

/-- `FAST_INC`, fixed at 1 in every legal set (R5, R7). -/
def fastInc : Nat := 1

/-- `NUM_LEDS`, fixed at 4 in every legal set (R5, R7). -/
def numLeds : Nat := 4

/-- The width of the `op` field (R47). -/
def opWidth : Nat := 3

/-- `CMD_WIDTH` = `3 + LED_IDX_WIDTH + TH_WIDTH`, bits of a command word (R6). -/
def Params.cmdWidth (p : Params) : Nat := opWidth + p.ledIdxWidth + p.thWidth

/-- What the port `led_req_idx` shows in a cycle that emits no request, by the number of the cycle: the
spec leaves it unspecified (R33, U7). A free value: nothing in Lean can evaluate it (log entry 5). -/
opaque freeLedReqIdx : Nat → Nat

/-- What the port `led_req_on` shows in a cycle that emits no request (R33, U7). A free value (log
entry 5). -/
opaque freeLedReqOn : Nat → Bool

end Sys2Proof.Config
end

