-- ==== Sys2Proof/Syntax.lean ====
section
/-! DEFINITION. The operations an input can select (spec/30_encoding.md rule R45), one constructor per row of
spec/opcode_table.json, and the input ports that present them (spec/20_memory.md rule R31). An operand is an
unsigned number; that it fits its field, whose width is a parameter, is a check of
`Sys2Proof/WellFormed.lean`. A field that R50 says is ignored is no operand (log entry 7). -/

namespace Sys2Proof

/-- The operation set of R45 that has encodings: three events (format EV) and four commands with the
reserved one (format CMD). The micro-operations of R45 (`SETLED_OP`, `APPLY`, `GLOW_ITER`, `PULSE_ITER`)
have no encoding and are shared operations of the machine. -/
inductive Instr where
  /-- `FAST_TICK` (R60). -/
  | fastTick
  /-- `SLOW_TICK` (R61). -/
  | slowTick
  /-- `STEP` (R100). -/
  | step
  /-- `NOP` (R97). -/
  | nop
  /-- `GLOW led, T` (R80); `T` is the whole `arg` field (R49). -/
  | glow (led t : Nat)
  /-- `PULSE led` (R87). -/
  | pulse (led : Nat)
  /-- `SETLED led, on` (R67). -/
  | setled (led : Nat) (lit : Bool)
  /-- `RSVD`, a command word with `op` = 4 to 7 (R51, R98). -/
  | rsvd
deriving DecidableEq, Repr

/-- The two formats: format EV is chosen by an event strobe, format CMD by the host's command (R45). -/
def Instr.isCommand : Instr → Bool
  | .fastTick => false
  | .slowTick => false
  | .step => false
  | .nop => true
  | .glow _ _ => true
  | .pulse _ => true
  | .setled _ _ => true
  | .rsvd => true

/-- An encoded operation, in one of the two formats (R46, R47). -/
inductive Code where
  /-- Format EV: an event vector. -/
  | ev (v : EvVec)
  /-- Format CMD: a command word, as the number its bits are. -/
  | cmd (w : Nat)
deriving DecidableEq, Repr

/-- The input ports sampled at one rising edge of `clk` (R30, R31). -/
structure Inputs where
  /-- `rst`, synchronous reset, active high. -/
  rst : Bool
  /-- `fast_tick`. -/
  fastTick : Bool
  /-- `slow_tick`. -/
  slowTick : Bool
  /-- `step_en`. -/
  stepEn : Bool
  /-- `cmd_valid`. -/
  cmdValid : Bool
  /-- `cmd`, `CMD_WIDTH` wires read as a number; ignored when `cmd_valid` = 0. -/
  cmd : Nat
deriving DecidableEq, Repr

/-- A cycle in which every input is low: it selects nothing (R118). -/
def Inputs.quiet : Inputs :=
  { rst := false, fastTick := false, slowTick := false, stepEn := false, cmdValid := false, cmd := 0 }

/-- The listing line `RESET`: one cycle with `rst` = 1 (R54). -/
def Inputs.reset : Inputs := { Inputs.quiet with rst := true }

end Sys2Proof
end

