-- ==== Sys2Proof/WellFormed.lean ====
section
/-! DEFINITION. What the spec requires of a thing that is written down: the legal parameter sets of
spec/00_scope.md rules R6 and R7, the operands of an instruction, each of which fits its field
(spec/30_encoding.md rules R47, R49, R54), and a listing's `cycle { a, b, … }` (R54), which presents at most
one command and each event at most once. -/

namespace Sys2Proof

/-! ### Parameter sets -/

/-- R7: `PERIOD >= 1`. -/
def Config.Params.periodPositive (p : Config.Params) : Bool := decide (1 ≤ p.period)

/-- R7: `PULSE_RATE >= 1`. -/
def Config.Params.pulseRatePositive (p : Config.Params) : Bool := decide (1 ≤ p.pulseRate)

/-- R7: `SLOW_INC >= 1`. -/
def Config.Params.slowIncPositive (p : Config.Params) : Bool := decide (1 ≤ p.slowInc)

/-- R6: `2^FC_WIDTH > PERIOD`. -/
def Config.Params.periodFitsFc (p : Config.Params) : Bool := decide (p.period < 2 ^ p.fcWidth)

/-- R6: `2^SC_WIDTH > PULSE_RATE + SLOW_INC`. -/
def Config.Params.gateFitsSc (p : Config.Params) : Bool :=
  decide (p.pulseRate + p.slowInc < 2 ^ p.scWidth)

/-- R6: `2^TH_WIDTH > PERIOD`. -/
def Config.Params.periodFitsTh (p : Config.Params) : Bool := decide (p.period < 2 ^ p.thWidth)

/-- R6: `DIR_WIDTH` bits of two's complement hold -1, 0 and +1. -/
def Config.Params.dirFits (p : Config.Params) : Bool := decide (2 ≤ p.dirWidth)

/-- R6: `2^LED_IDX_WIDTH > NUM_LEDS`, so that an out-of-range index can be expressed. -/
def Config.Params.ledIdxFits (p : Config.Params) : Bool := decide (Config.numLeds < 2 ^ p.ledIdxWidth)

/-- A legal parameter set (R6, R7). `FAST_INC` and `NUM_LEDS` are fixed and `CMD_WIDTH` follows from the
other widths, so there is nothing to check of them. -/
def Config.Params.legal (p : Config.Params) : Bool :=
  p.periodPositive && p.pulseRatePositive && p.slowIncPositive && p.periodFitsFc && p.gateFitsSc
    && p.periodFitsTh && p.dirFits && p.ledIdxFits

/-! ### Operands -/

/-- An LED index that the `led` field can hold (R47, R54). -/
def ledFits (p : Config.Params) (led : Nat) : Bool := decide (led < 2 ^ p.ledIdxWidth)

/-- A threshold that the `arg` field can hold (R47, R54). -/
def thresholdFits (p : Config.Params) (t : Nat) : Bool := decide (t < 2 ^ p.thWidth)

/-- The operands that the encoding admits: each fits its field, and every such value is legal (R49, R52). -/
def Instr.wellFormed (p : Config.Params) : Instr → Bool
  | .fastTick => true
  | .slowTick => true
  | .step => true
  | .nop => true
  | .glow led t => ledFits p led && thresholdFits p t
  | .pulse led => ledFits p led
  | .setled led _ => ledFits p led
  | .rsvd => true

/-! ### Cycles -/

/-- R54: at most one command stands inside one cycle's braces. -/
def atMostOneCommand (ops : List Instr) : Bool := decide ((ops.filter Instr.isCommand).length ≤ 1)

/-- R31, R54: each event has one strobe, so it is presented at most once in one cycle. -/
def eachEventAtMostOnce (ops : List Instr) : Bool :=
  decide (ops.count .fastTick ≤ 1) && decide (ops.count .slowTick ≤ 1) && decide (ops.count .step ≤ 1)

/-- The operations of a listing's `cycle { … }` that the input ports can present together (R54). -/
def wellFormedCycle (p : Config.Params) (ops : List Instr) : Bool :=
  ops.all (Instr.wellFormed p) && atMostOneCommand ops && eachEventAtMostOnce ops

end Sys2Proof
end

