-- ==== Sys2Proof/Decode.lean ====
section
/-! DEFINITION. Decoding and encoding (spec/30_encoding.md rules R46 to R52), for every parameter set: a
command word has, from its top, the fields `op`, `led` and `arg`, of 3, `LED_IDX_WIDTH` and `TH_WIDTH`
bits. Decoding is total: R52 says that every word is one of the five commands and every event vector a set
of events, so nothing is rejected. The encoder is written from the same tables; it writes zeros in the
ignored fields, as R50 asks of a host, and `op` = 4 for the reserved command (log entry 7). -/

namespace Sys2Proof

/-- `op`, the top 3 bits, `cmd[15:13]` with the defaults (R47, R49). -/
def cmdOp (p : Config.Params) (w : Nat) : Nat :=
  w / 2 ^ (p.ledIdxWidth + p.thWidth) % 2 ^ Config.opWidth

/-- `led`, `cmd[12:9]` with the defaults (R47, R49). -/
def cmdLed (p : Config.Params) (w : Nat) : Nat := w / 2 ^ p.thWidth % 2 ^ p.ledIdxWidth

/-- `arg`, `cmd[8:0]` with the defaults (R47, R49). -/
def cmdArg (p : Config.Params) (w : Nat) : Nat := w % 2 ^ p.thWidth

/-- `on = cmd[0]` (R49). -/
def cmdOn (w : Nat) : Bool := w.testBit 0

/-- The command a word stands for, by its `op` field (R48, R51, R52). -/
def decodeCmd (p : Config.Params) (w : Nat) : Instr :=
  match cmdOp p w with
  | 0 => .nop
  | 1 => .glow (cmdLed p w) (cmdArg p w)
  | 2 => .pulse (cmdLed p w)
  | 3 => .setled (cmdLed p w) (cmdOn w)
  | _ => .rsvd

/-- The events a vector selects, in the order in which a cycle runs them (R46, R102). The three bits are
independent, so a vector selects from none to three operations. -/
def decodeEv (v : EvVec) : List Instr :=
  (if v.getLsbD 0 then [Instr.fastTick] else []) ++
  (if v.getLsbD 1 then [Instr.slowTick] else []) ++
  (if v.getLsbD 2 then [Instr.step] else [])

/-- The operations an encoded word selects. -/
def decode (p : Config.Params) : Code → List Instr
  | .ev v => decodeEv v
  | .cmd w => [decodeCmd p w]

/-- A command word put together from its fields (R47). -/
def cmdWordOf (p : Config.Params) (op led arg : Nat) : Nat :=
  (op * 2 ^ p.ledIdxWidth + led) * 2 ^ p.thWidth + arg

/-- The encoding of one operation (R46 to R50). -/
def encode (p : Config.Params) : Instr → Code
  | .fastTick => .ev 0b001
  | .slowTick => .ev 0b010
  | .step => .ev 0b100
  | .nop => .cmd (cmdWordOf p 0 0 0)
  | .glow led t => .cmd (cmdWordOf p 1 led t)
  | .pulse led => .cmd (cmdWordOf p 2 led 0)
  | .setled led lit => .cmd (cmdWordOf p 3 led lit.toNat)
  | .rsvd => .cmd (cmdWordOf p 4 0 0)

/-- The event vector `{step_en, slow_tick, fast_tick}` of the input ports (R31, R46). -/
def Inputs.ev (inp : Inputs) : EvVec :=
  BitVec.ofBool inp.stepEn ++ BitVec.ofBool inp.slowTick ++ BitVec.ofBool inp.fastTick

/-- The operations a cycle's inputs select when `rst` = 0, in the fixed order of R102: fast tick, slow
tick, the command, the step. `cmd` is not looked at when `cmd_valid` = 0 (R31). -/
def decodeInputs (p : Config.Params) (inp : Inputs) : List Instr :=
  (if inp.fastTick then [Instr.fastTick] else []) ++
  (if inp.slowTick then [Instr.slowTick] else []) ++
  (if inp.cmdValid then [decodeCmd p inp.cmd] else []) ++
  (if inp.stepEn then [Instr.step] else [])

/-- The input ports that present one encoded word for one cycle: an event vector on the three strobes, a
command word on `cmd` with `cmd_valid` = 1 (R31). -/
def Code.inputs : Code → Inputs
  | .ev v =>
    { Inputs.quiet with fastTick := v.getLsbD 0, slowTick := v.getLsbD 1, stepEn := v.getLsbD 2 }
  | .cmd w => { Inputs.quiet with cmdValid := true, cmd := w }

/-- The encoded words of format CMD among the operations. -/
def commandWords (p : Config.Params) : List Instr → List Nat
  | [] => []
  | i :: ops =>
    match encode p i with
    | .ev _ => commandWords p ops
    | .cmd w => w :: commandWords p ops

/-- The input ports that present a listing's `cycle { … }` (R54): the strobes of the events that stand in
it, and the first command's word. -/
def presentCycle (p : Config.Params) (ops : List Instr) : Inputs :=
  { rst := false
    fastTick := ops.contains .fastTick
    slowTick := ops.contains .slowTick
    stepEn := ops.contains .step
    cmdValid := !(commandWords p ops).isEmpty
    cmd := (commandWords p ops).headD 0 }

/-- A row of spec/opcode_table.json, whose widths are the defaults, by its bits `w`, `nbits` bits wide in
whole bytes: a row of 16 bits is a command word, a narrower one an event vector in its three low bits (log
entry 4). -/
def tableCode (nbits w : Nat) : Code :=
  if nbits < 16 then .ev (BitVec.ofNat 3 w) else .cmd (w % 2 ^ Config.params.cmdWidth)

/-- The instruction the decoder reads from a table row's bits. An event vector of several bits selects
several operations; the one a cycle runs first is answered, and none for the vector 0 (log entry 4). -/
def decodeTableWord (nbits w : Nat) : Option Instr :=
  (decode Config.params (tableCode nbits w)).head?

/-- One row of spec/opcode_table.json: its format, `match` and `mask`. -/
structure TableRow where
  /-- The row's mnemonic. -/
  mnemonic : String
  /-- Whether the row's format is CMD. -/
  isCmd : Bool
  /-- The row's `match`. -/
  pattern : BitVec 16
  /-- The row's `mask`. -/
  mask : BitVec 16
deriving DecidableEq, Repr

/-- The rows of spec/opcode_table.json. -/
def opcodeTable : List TableRow :=
  [⟨"FAST_TICK", false, 0b001, 0b001⟩, ⟨"SLOW_TICK", false, 0b010, 0b010⟩, ⟨"STEP", false, 0b100, 0b100⟩,
   ⟨"NOP", true, 0x0000, 0xE000⟩, ⟨"GLOW", true, 0x2000, 0xE000⟩, ⟨"PULSE", true, 0x4000, 0xE000⟩,
   ⟨"SETLED", true, 0x6000, 0xE000⟩, ⟨"RSVD", true, 0x8000, 0x8000⟩]

/-- The bits of an encoded word of the default widths, which are the table's; the event vector's are numbered
as the table numbers them. -/
def Code.bits : Code → BitVec 16
  | .ev v => v.setWidth 16
  | .cmd w => BitVec.ofNat 16 w

/-- Whether a code is of format CMD. -/
def Code.isCmd : Code → Bool
  | .ev _ => false
  | .cmd _ => true

/-- Whether a word is one of a table row's words: the row's format, and the row's bits under its mask. -/
def TableRow.accepts (r : TableRow) (c : Code) : Bool :=
  r.isCmd == c.isCmd && (c.bits &&& r.mask) == r.pattern

end Sys2Proof
end

