-- ==== Sys2Proof/Machine/State.lean ====
section
/-! DEFINITION. The state of the block: the nine registers of spec/10_state.md rules R10 to R18, which R21
calls the whole state, and four fields of the model's own: the input schedule the environment will
present, the LED requests emitted in this cycle and in the cycles before, and the number of the cycle,
which indexes the free values of `Config` (log entries 2, 3, 8, 9). There is no memory (R34), no program
counter (R19), no exception register (R105, R112) and no second privilege level (R114). -/

namespace Sys2Proof.Machine

/-- `MODE`, which driver is running (R17). Three-valued, as R22 and U4 ask, so that the encoding `0b11`
does not exist (log entry 6). -/
inductive Mode where
  /-- `0b00`, no driver started. -/
  | idle
  /-- `0b01`, the Glow Driver runs. -/
  | glow
  /-- `0b10`, the Pulse Glow Driver runs. -/
  | pulse
deriving DecidableEq, Repr

/-- `DIR`, the ramp direction (R14). Three-valued, as R22 and U4 ask, so that the encoding `0b10` does not
exist (log entry 6). -/
inductive Dir where
  /-- `0b00` = 0, direction unset. -/
  | unset
  /-- `0b01` = +1, climbing. -/
  | up
  /-- `0b11` = -1, descending. -/
  | down
deriving DecidableEq, Repr

/-- One LED request, the pair (index, on) that one call of `setLed` emits, in range or not (R9, R33). -/
structure LedReq where
  /-- `led_req_idx`. -/
  idx : Nat
  /-- `led_req_on`: 1 = on, 0 = off. -/
  lit : Bool
deriving DecidableEq, Repr

/-- The machine's state. The five registers whose width is a parameter are unsigned numbers; each
operation that writes one keeps it below 2 to the power of its width (log entry 16). -/
structure State where
  /-- `FC`, the FastCounter (R10). -/
  fc : Nat
  /-- `SC`, the SlowCounter (R11). -/
  sc : Nat
  /-- `GTH`, the glow threshold register (R12). -/
  gth : Nat
  /-- `RAMP`, the pulse-ramp accumulator (R13). -/
  ramp : Nat
  /-- `DIR`, the ramp direction (R14). -/
  dir : Dir
  /-- `ON`, the LedOnState flag (R15). -/
  onState : Bool
  /-- `LEDSEL`, the index of the LED the running driver drives (R16). -/
  ledsel : Nat
  /-- `MODE`, which driver is running (R17). -/
  mode : Mode
  /-- `LED_OUT`, the LED Output register (R18). -/
  ledOut : LedPattern
  /-- MODEL'S OWN: what the environment will present on the input ports, the next rising edge first
  (log entry 3). -/
  inputs : List Inputs
  /-- MODEL'S OWN: the LED requests emitted so far in the cycle under way, or in the last one between two
  steps (R33, log entry 8). -/
  cycleReqs : List LedReq
  /-- MODEL'S OWN: the LED requests of the cycles before it, in cycle order (R33, log entry 9). -/
  pastReqs : List LedReq
  /-- MODEL'S OWN: how many cycles have begun since `State.reset`; it indexes the free values
  (log entry 5). -/
  cycle : Nat
deriving DecidableEq, Repr

/-- The faults: none. Every operation is total and raises nothing (R105), and no state is final (R125), so
the type is empty and no step can answer a fault (log entry 11). -/
inductive Fault where
deriving DecidableEq, Repr

/-- The refusals. -/
inductive Refusal where
  /-- An arm of `exec` whose instruction has no meaning yet raises it (safe: the machine stops). No arm
  does: every instruction is modelled. -/
  | notModelled (mnemonic : String)
deriving DecidableEq, Repr

/-- `ResetState` (R120): every register at the value R120 states. The model's own fields are empty and 0,
a DESIGN CHOICE (log entry 2): no input is scheduled and no request has been emitted. -/
def State.reset : State :=
  { fc := 0, sc := 0, gth := 0, ramp := 0, dir := .unset, onState := false, ledsel := 0, mode := .idle,
    ledOut := 0b0000, inputs := [], cycleReqs := [], pastReqs := [], cycle := 0 }

end Sys2Proof.Machine
end

