-- ==== Sys2Proof/Machine/Ops.lean ====
section
/-! DEFINITION. The named operations over the registers and the output event list. Each register has one
home in `State` and one writer here. The block takes no exception and returns from none: a tick saves
nothing and transfers no control (spec/60_exceptions.md rules R105, R112, R113), so there is no such
operation. -/

namespace Sys2Proof.Machine

/-- `FC <- v` (R10). -/
def State.setFc (s : State) (v : Nat) : State := { s with fc := v }

/-- `SC <- v` (R11). -/
def State.setSc (s : State) (v : Nat) : State := { s with sc := v }

/-- `GTH <- v` (R12). -/
def State.setGth (s : State) (v : Nat) : State := { s with gth := v }

/-- `RAMP <- v` (R13). -/
def State.setRamp (s : State) (v : Nat) : State := { s with ramp := v }

/-- `DIR <- v` (R14). -/
def State.setDir (s : State) (v : Dir) : State := { s with dir := v }

/-- `ON <- v` (R15). -/
def State.setOn (s : State) (v : Bool) : State := { s with onState := v }

/-- `LEDSEL <- v` (R16). -/
def State.setLedsel (s : State) (v : Nat) : State := { s with ledsel := v }

/-- `MODE <- v` (R17). -/
def State.setMode (s : State) (v : Mode) : State := { s with mode := v }

/-- `LED_OUT <- v` (R18); its one caller is `setledOp` (R68). -/
def State.setLedOut (s : State) (v : LedPattern) : State := { s with ledOut := v }

/-- `emit LedReq(idx, on)`: the request joins the cycle's output events (R8, R33). -/
def State.emit (s : State) (r : LedReq) : State := { s with cycleReqs := s.cycleReqs ++ [r] }

/-- `LED_OUT[idx] <- on` for an index that names an LED, the other bits kept; no effect for an index that
names none (R35, R37, R65). -/
def writeLed (v : LedPattern) (idx : Nat) (lit : Bool) : LedPattern :=
  if idx < Config.numLeds then
    if lit then v ||| (1#4 <<< idx) else v &&& ~~~(1#4 <<< idx)
  else v

/-- The pattern that a list of LED requests leaves, each applied in turn. -/
def writeLeds (v : LedPattern) (rs : List LedReq) : LedPattern :=
  rs.foldl (fun w r => writeLed w r.idx r.lit) v

/-- Every LED request so far, in cycle order: the list R33 and R125 speak of. -/
def State.requests (s : State) : List LedReq := s.pastReqs ++ s.cycleReqs

/-- Reset's write of the nine registers (R120). No request is emitted, and the request list is an output,
not a register: it stays (log entry 9). -/
def resetRegs (s : State) : State :=
  { s with fc := 0, sc := 0, gth := 0, ramp := 0, dir := .unset, onState := false, ledsel := 0,
           mode := .idle, ledOut := 0b0000 }

/-- The encoding of `MODE` (R17). -/
def Mode.bits : Mode → BitVec 2
  | .idle => 0b00
  | .glow => 0b01
  | .pulse => 0b10

/-- The value of `DIR`: 0, +1 or -1 (R14). -/
def Dir.value : Dir → Int
  | .unset => 0
  | .up => 1
  | .down => -1

/-- The encoding of `DIR`, two's complement in `DIR_WIDTH` bits: `0b00`, `0b01` and `0b11` with the default
(R14). -/
def Dir.bits (p : Config.Params) (d : Dir) : BitVec p.dirWidth := BitVec.ofInt p.dirWidth d.value

/-- `FC + FAST_INC` modulo `2^FC_WIDTH` (R60, R96). -/
def bumpFc (p : Config.Params) (v : Nat) : Nat := (v + Config.fastInc) % 2 ^ p.fcWidth

/-- `SC + SLOW_INC` modulo `2^SC_WIDTH` (R61, R96). -/
def bumpSc (p : Config.Params) (v : Nat) : Nat := (v + p.slowInc) % 2 ^ p.scWidth

/-- `RAMP + DIR` modulo `2^TH_WIDTH`, `DIR` read as a signed number (R90, R96). -/
def rampPlusDir (p : Config.Params) (ramp : Nat) (d : Dir) : Nat :=
  (((ramp : Int) + d.value) % ((2 ^ p.thWidth : Nat) : Int)).toNat

end Sys2Proof.Machine
end

