-- ==== Sys2Proof/Machine/Operands.lean ====
section
/-! DEFINITION. The operands of the operations as the numbers that are compared (spec/00_scope.md rule R8,
spec/45_control.md rule R96). Extending an unsigned number with zeros leaves the number as it is. -/

namespace Sys2Proof.Machine

/-- `zext(GTH)`, the threshold `GLOW_ITER` hands to `APPLY` (R20, R82). -/
def State.glowThreshold (s : State) : Nat := s.gth

/-- `zext(RAMP)`, the threshold `PULSE_ITER` hands to `APPLY` (R20, R88). -/
def State.rampThreshold (s : State) : Nat := s.ramp

/-- The effective threshold `T` is no register: it is chosen by `MODE`, and in mode IDLE it does not
exist (R20). -/
def State.effectiveThreshold (s : State) : Option Nat :=
  match s.mode with
  | .idle => none
  | .glow => some s.glowThreshold
  | .pulse => some s.rampThreshold

/-- The index test `idx < NUM_LEDS` (R35, R65, R96). -/
def ledExists (idx : Nat) : Bool := decide (idx < Config.numLeds)

/-- The range test `T <= PERIOD` of `GLOW` (R80, R81, R96). -/
def thresholdInRange (p : Config.Params) (t : Nat) : Bool := decide (t ≤ p.period)

/-- The acceptance test of the commands, `MODE = IDLE` (R99). -/
def State.isIdle (s : State) : Bool := decide (s.mode = .idle)

end Sys2Proof.Machine
end

