-- ==== Sys2Proof/Machine/Flags.lean ====
section
/-! DEFINITION. The block's one status flag `ON` (spec/10_state.md rule R15) and the tests that steer the
operations: the five comparisons and the signed test of spec/45_control.md rule R96 (b), all on
mathematical integers, and the choice of the ramp's direction (spec/44_pulse_glow_driver.md rule R89). -/

namespace Sys2Proof.Machine

/-- What `ON` is at a driver start: "created false at driver start" (R15, R124). -/
def onAtDriverStart : Bool := false

/-- `F < T`, region A of `APPLY` (R70). -/
def belowThreshold (f t : Nat) : Bool := decide (f < t)

/-- `F < PERIOD`, which parts regions B and C of `APPLY` (R70). -/
def belowPeriod (p : Config.Params) (f : Nat) : Bool := decide (f < p.period)

/-- `SC >= PULSE_RATE`, the gate, unsigned (R88, R92). -/
def gateOpen (p : Config.Params) (sc : Nat) : Bool := decide (p.pulseRate ≤ sc)

/-- `RAMP < PERIOD`, the climbing test (R88, R89). -/
def rampBelowPeriod (p : Config.Params) (ramp : Nat) : Bool := decide (ramp < p.period)

/-- `RAMP > 0`, the descending test (R88, R89). -/
def rampAboveZero (ramp : Nat) : Bool := decide (0 < ramp)

/-- `DIR > 0`, true exactly for +1 (R88, R96). -/
def dirPositive (d : Dir) : Bool := decide (0 < d.value)

/-- D00's step 3, the direction selection (R88, R89); `DIR` = 0 takes the descending branch, the tie-break
R93 says must be kept. -/
def chooseDir (p : Config.Params) (d : Dir) (ramp : Nat) : Dir :=
  if dirPositive d then
    if rampBelowPeriod p ramp then .up else .down
  else
    if rampAboveZero ramp then .down else .up

end Sys2Proof.Machine
end

