-- ==== Sys2Proof/Machine/LedOutput.lean ====
section
/-! DEFINITION. The LED Output operations `SETLED_OP` and `SETLED` (spec/41_led_output.md rules R65, R67). -/

namespace Sys2Proof.Machine

/-- `SETLED_OP(idx, on)`: the request is emitted always, the bit is written when the index names an LED
(R65). The only writer of `LED_OUT` apart from reset (R68). -/
def setledOp (idx : Nat) (lit : Bool) (s : State) : State :=
  (s.emit ⟨idx, lit⟩).setLedOut (writeLed s.ledOut idx lit)

/-- The host command's body: it acts in mode IDLE only (R67). -/
def setledCommand (idx : Nat) (lit : Bool) (s : State) : State :=
  if s.isIdle then setledOp idx lit s else s

/-- `SETLED led, on` (R67). -/
def execSetled (led : Nat) (lit : Bool) (s : State) : Host.Outcome State Fault Refusal :=
  .next (setledCommand led lit s)

end Sys2Proof.Machine
end

