-- ==== Sys2Proof/Machine/PwmEngine.lean ====
section
/-! DEFINITION. The PWM Engine operation `APPLY` (spec/42_pwm_engine.md rule R70), read as
spec/90_conflicts.md C1 fixes it: the counter comparisons choose the region and `ON` only decides whether
a write is needed. -/

namespace Sys2Proof.Machine

/-- `APPLY(idx, T)` (R70). `FC` is read once (R71); `T` and `idx` are not validated (R75). -/
def applyOp (p : Config.Params) (idx t : Nat) (s : State) : State :=
  let f := s.fc
  if belowThreshold f t then
    if s.onState then s else setledOp idx true (s.setOn true)
  else if belowPeriod p f then
    if s.onState then setledOp idx false (s.setOn false) else s
  else
    s.setFc 0

end Sys2Proof.Machine
end

