-- ==== Sys2Proof/Machine/GlowDriver.lean ====
section
/-! DEFINITION. The Glow Driver: the command `GLOW` and the micro-operation `GLOW_ITER`
(spec/43_glow_driver.md rules R80, R81, R82). -/

namespace Sys2Proof.Machine

/-- The driver start of R80, refused silently in a mode other than IDLE (R99) and for `T > PERIOD` (R81).
`FC`, `SC` and `LED_OUT` are not touched (R124). -/
def glowStart (p : Config.Params) (led t : Nat) (s : State) : State :=
  if s.isIdle && thresholdInRange p t then
    (((s.setGth t).setLedsel led).setOn onAtDriverStart).setMode .glow
  else s

/-- `GLOW_ITER`, one pass of the Glow Driver's loop (R82). -/
def glowIter (p : Config.Params) (s : State) : State := applyOp p s.ledsel s.glowThreshold s

/-- `GLOW led, T` (R80). -/
def execGlow (led t : Nat) (s : State) : Host.Outcome State Fault Refusal :=
  .next (glowStart Config.params led t s)

end Sys2Proof.Machine
end

