-- ==== Sys2Proof/Machine/HostSide.lean ====
section
/-! DEFINITION. The host's expansion of the pseudo-instruction `GLOWB led, b`, D00's `glow(led, brightness)`
(spec/43_glow_driver.md rule R84, spec/30_encoding.md rule R55). It runs outside the block; `b` is an exact
rational number (log entry 13). -/

namespace Sys2Proof.Machine

/-- `T = floor(PERIOD * b + 1/2)`, a tie rounded upwards (R84). -/
def glowbThreshold (p : Config.Params) (b : Rat) : Nat := ((p.period : Rat) * b + 1 / 2).floor.toNat

/-- The command the host presents for `GLOWB led, b`: `GLOW led, T` for `0.0 <= b <= 1.0`, nothing
otherwise (R84, R107). -/
def expandGlowb (p : Config.Params) (led : Nat) (b : Rat) : Option Instr :=
  if 0 ≤ b ∧ b ≤ 1 then some (.glow led (glowbThreshold p b)) else none

end Sys2Proof.Machine
end

