-- ==== Sys2Proof/Machine/PulseDriver.lean ====
section
/-! DEFINITION. The Pulse Glow Driver: the command `PULSE` and the micro-operation `PULSE_ITER`
(spec/44_pulse_glow_driver.md rules R87 to R93). -/

namespace Sys2Proof.Machine

/-- The driver start of R87, ignored in a mode other than IDLE (R99). `FC`, `SC` and `LED_OUT` are not
touched (R124). -/
def pulseStart (led : Nat) (s : State) : State :=
  if s.isIdle then
    ((((s.setRamp 0).setDir .unset).setOn onAtDriverStart).setLedsel led).setMode .pulse
  else s

/-- D00's steps 3 and 4 of one iteration, when the gate has passed: the direction is chosen, added to
`RAMP`, and `SC` is consumed, whatever it had grown to (R88, R89, R90). -/
def passGate (p : Config.Params) (s : State) : State :=
  let d := chooseDir p s.dir s.ramp
  ((s.setDir d).setRamp (rampPlusDir p s.ramp d)).setSc 0

/-- `PULSE_ITER`, one pass of the Pulse Glow Driver's loop: `APPLY` with the old `RAMP`, then the gate
(R88). -/
def pulseIter (p : Config.Params) (s : State) : State :=
  let a := applyOp p s.ledsel s.rampThreshold s
  if gateOpen p a.sc then passGate p a else a

/-- `PULSE led` (R87). -/
def execPulse (led : Nat) (s : State) : Host.Outcome State Fault Refusal := .next (pulseStart led s)

end Sys2Proof.Machine
end

