-- ==== Sys2Proof/Machine/Control.lean ====
section
/-! DEFINITION. The control operations `NOP`, `RSVD` and `STEP` (spec/45_control.md rules R97, R98, R100,
R101). -/

namespace Sys2Proof.Machine

/-- `STEP`: one pass of the loop of whichever driver is running, nothing in mode IDLE (R100, R101). -/
def stepOp (p : Config.Params) (s : State) : State :=
  match s.mode with
  | .idle => s
  | .glow => glowIter p s
  | .pulse => pulseIter p s

/-- `NOP` (R97). -/
def execNop (s : State) : Host.Outcome State Fault Refusal := .next s

/-- `RSVD`, a no-op in every mode (R51, R98). -/
def execRsvd (s : State) : Host.Outcome State Fault Refusal := .next s

/-- `STEP` (R100). -/
def execStep (s : State) : Host.Outcome State Fault Refusal := .next (stepOp Config.params s)

end Sys2Proof.Machine
end

