-- ==== Sys2Proof/Machine/TickSource.lean ====
section
/-! DEFINITION. The Tick Source operations `FAST_TICK` and `SLOW_TICK` (spec/40_tick_source.md rules R60,
R61). -/

namespace Sys2Proof.Machine

/-- `FC <- (FC + FAST_INC) mod 2^FC_WIDTH`, in every mode; it never wraps at `PERIOD` (R60). -/
def fastTickOp (p : Config.Params) (s : State) : State := s.setFc (bumpFc p s.fc)

/-- `SC <- (SC + SLOW_INC) mod 2^SC_WIDTH`, in every mode; it never clears `SC` (R61). -/
def slowTickOp (p : Config.Params) (s : State) : State := s.setSc (bumpSc p s.sc)

/-- `FAST_TICK` (R60). -/
def execFastTick (s : State) : Host.Outcome State Fault Refusal :=
  .next (fastTickOp Config.params s)

/-- `SLOW_TICK` (R61). -/
def execSlowTick (s : State) : Host.Outcome State Fault Refusal := .next (slowTickOp Config.params s)

end Sys2Proof.Machine
end

