-- ==== Sys2Proof/Machine/Dispatch.lean ====
section
/-! DEFINITION. One arm per constructor of `Instr`. -/

namespace Sys2Proof.Machine

def exec (i : Instr) (s : State) : Host.Outcome State Fault Refusal :=
  match i with
  | .fastTick => Sys2Proof.Machine.execFastTick s
  | .slowTick => Sys2Proof.Machine.execSlowTick s
  | .step => Sys2Proof.Machine.execStep s
  | .nop => Sys2Proof.Machine.execNop s
  | .glow led t => Sys2Proof.Machine.execGlow led t s
  | .pulse led => Sys2Proof.Machine.execPulse led s
  | .setled led lit => Sys2Proof.Machine.execSetled led lit s
  | .rsvd => Sys2Proof.Machine.execRsvd s

end Sys2Proof.Machine
end

