-- ==== Sys2Proof/Machine/Cycle.lean ====
section
/-! DEFINITION. One clock cycle (spec/45_control.md rule R102): the inputs sampled at the rising edge
select the operations, which run one after another in the fixed order, each seeing the state the one
before left (spec/20_memory.md rule R39). -/

namespace Sys2Proof.Machine

/-- Goes on with the next state of an outcome, and stops with it otherwise. -/
def andThen (o : Host.Outcome State Fault Refusal) (f : State → Host.Outcome State Fault Refusal) :
    Host.Outcome State Fault Refusal :=
  match o with
  | .next s => f s
  | .fault r => .fault r
  | .refused r => .refused r

/-- What runs one operation: `exec`, or `execFor` of a parameter set. -/
abbrev Executor := Instr → State → Host.Outcome State Fault Refusal

/-- Runs operations one after another (R39). -/
def runOps (ex : Executor) : List Instr → State → Host.Outcome State Fault Refusal
  | [], s => .next s
  | i :: ops, s => andThen (ex i s) (runOps ex ops)

/-- What the ports present at the next rising edge: the head of the schedule, and all inputs low once the
schedule is used up (log entry 3). -/
def nextInputs (s : State) : Inputs := s.inputs.headD Inputs.quiet

/-- The model's own bookkeeping at a rising edge: the sample is taken off the schedule (no input is
latched, R32), the last cycle's requests join the list of the past ones, and the cycle is counted. -/
def beginCycle (s : State) : State :=
  { s with inputs := s.inputs.tail, pastReqs := s.requests, cycleReqs := [], cycle := s.cycle + 1 }

/-- What the block does with one sample of its inputs: reset has priority, and in a cycle with `rst` = 1
no operation runs (R102, R122). -/
def runInputs (p : Config.Params) (ex : Executor) (inp : Inputs) (s : State) :
    Host.Outcome State Fault Refusal :=
  if inp.rst then .next (resetRegs s) else runOps ex (decodeInputs p inp) s

/-- One rising edge of `clk`, of a block with the parameters `p` whose operations `ex` runs. -/
def runCycle (p : Config.Params) (ex : Executor) (s : State) : Host.Outcome State Fault Refusal :=
  runInputs p ex (nextInputs s) (beginCycle s)

/-- Puts a sample where the next step takes its inputs from; the samples of the later edges stay. -/
def presentNext (inp : Inputs) (s : State) : State := { s with inputs := inp :: s.inputs.tail }

end Sys2Proof.Machine
end

