-- ==== Sys2Proof/Machine/Ports.lean ====
section
/-! DEFINITION. The output ports (spec/20_memory.md rules R31, R33), read off the state after a step: they
show the cycle that step ran (log entry 8). There is no read port for any internal register (R31). -/

namespace Sys2Proof.Machine

/-- `led[3:0]`: `led[i] = LED_OUT[i]` at all times (R31, R66). -/
def State.ledPort (s : State) : LedPattern := s.ledOut

/-- `led_req_valid`: 1 in a cycle whose operations emit an LED request (R31, R33). -/
def State.ledReqValid (s : State) : Bool := !s.cycleReqs.isEmpty

/-- `led_req_idx`, `LED_IDX_WIDTH` wires: the request's index, and a free value in a cycle without one (R33,
U7, log entry 5). -/
def State.ledReqIdx (p : Config.Params) (s : State) : Nat :=
  match s.cycleReqs with
  | [] => Config.freeLedReqIdx s.cycle % 2 ^ p.ledIdxWidth
  | r :: _ => r.idx

/-- `led_req_on`: the request's value, and a free value in a cycle without one (R33, U7, log entry 5). -/
def State.ledReqOn (s : State) : Bool :=
  match s.cycleReqs with
  | [] => Config.freeLedReqOn s.cycle
  | r :: _ => r.lit

end Sys2Proof.Machine
end

