-- ==== Sys2Proof/Machine/Step.lean ====
section
/-! DEFINITION. One step of the machine is one clock cycle (spec/45_control.md rule R102). The block
fetches nothing (spec/20_memory.md rule R44): what stands in the place of a fetch is the sample of its
input ports. -/

namespace Sys2Proof.Machine

/-- One rising edge of `clk`, of the block with the default parameters (log entry 1). -/
def step (s : State) : Host.Outcome State Fault Refusal := runCycle Config.params exec s

/-- The state whose next step is presented the operation with a table row's bits, and nothing else
(log entry 4). -/
def State.withFetchWord (s : State) (nbits w : Nat) : State := presentNext (tableCode nbits w).inputs s

end Sys2Proof.Machine
end

