-- ==== Sys2Proof/Machine/ForParams.lean ====
section
/-! DEFINITION. The block for every parameter set (spec/00_scope.md rules R6 and R7,
spec/92_eei_decisions.md D4, D5, D29): the same operations as those `exec` and `step` run, given the
parameters as an argument. With the defaults it is the machine under the host's names (log entry 1). -/

namespace Sys2Proof.Machine

/-- One operation of the block with the parameters `p`. -/
def execFor (p : Config.Params) : Executor
  | .fastTick, s => .next (fastTickOp p s)
  | .slowTick, s => .next (slowTickOp p s)
  | .step, s => .next (stepOp p s)
  | .nop, s => .next s
  | .glow led t, s => .next (glowStart p led t s)
  | .pulse led, s => .next (pulseStart led s)
  | .setled led lit, s => .next (setledCommand led lit s)
  | .rsvd, s => .next s

/-- One rising edge of `clk`, of the block with the parameters `p`. -/
def stepFor (p : Config.Params) (s : State) : Host.Outcome State Fault Refusal :=
  runCycle p (execFor p) s

/-- The block with the parameters `p`, from reset (R120 gives every set the same reset values). -/
def coreFor (p : Config.Params) : Host.Core :=
  { State := State, Fault := Fault, Refusal := Refusal, step := stepFor p, reset := State.reset }

end Sys2Proof.Machine
end

