-- ==== Sys2Proof/Safety.lean ====
section
/-! DEFINITION. The terms the statements are made in: the nine registers as one value, the invariant of
spec/10_state.md rule R22, the agreement of `ON` with the LED it caches (R23), what it means that an input
schedule holds no reset, and the ramp's ping-pong sequence (spec/44_pulse_glow_driver.md rule R91). A run
has no end (spec/70_reset_and_hazards.md rule R125), so a safe run is one whose every state meets the
invariant. -/

namespace Sys2Proof.Machine

/-- The nine registers, which R21 calls the whole state, without the model's own fields. -/
structure Regs where
  fc : Nat
  sc : Nat
  gth : Nat
  ramp : Nat
  dir : Dir
  onState : Bool
  ledsel : Nat
  mode : Mode
  ledOut : LedPattern
deriving DecidableEq, Repr

/-- The registers of a state. -/
def State.regs (s : State) : Regs :=
  { fc := s.fc, sc := s.sc, gth := s.gth, ramp := s.ramp, dir := s.dir, onState := s.onState,
    ledsel := s.ledsel, mode := s.mode, ledOut := s.ledOut }

/-- R22 (c) to (g): what holds in every reachable state. (a) and (b) hold by the types of `MODE` and
`DIR`. -/
structure RegsInv (p : Config.Params) (s : State) : Prop where
  /-- (c) `0 <= GTH <= PERIOD`. -/
  gth_le : s.gth ≤ p.period
  /-- (d) `0 <= RAMP <= PERIOD`. -/
  ramp_le : s.ramp ≤ p.period
  /-- (e) In mode PULSE, `DIR = 0` implies `RAMP = 0`. -/
  unset_ramp : s.mode = .pulse → s.dir = .unset → s.ramp = 0
  /-- (f) In mode IDLE the driver-local registers are 0. -/
  idle_zero : s.mode = .idle →
    s.gth = 0 ∧ s.ramp = 0 ∧ s.dir = .unset ∧ s.onState = false ∧ s.ledsel = 0
  /-- (g) In mode GLOW, `RAMP = 0` and `DIR = 0`. -/
  glow_zero : s.mode = .glow → s.ramp = 0 ∧ s.dir = .unset
  /-- (g) In mode PULSE, `GTH = 0`. -/
  pulse_zero : s.mode = .pulse → s.gth = 0

/-- Each register whose width is a parameter fits it, and so does the index of each request, which the port
`led_req_idx` shows (R10 to R13, R16, R31). -/
structure FitsWidths (p : Config.Params) (s : State) : Prop where
  /-- `FC` fits `FC_WIDTH` bits. -/
  fc_lt : s.fc < 2 ^ p.fcWidth
  /-- `SC` fits `SC_WIDTH` bits. -/
  sc_lt : s.sc < 2 ^ p.scWidth
  /-- `GTH` fits `TH_WIDTH` bits. -/
  gth_lt : s.gth < 2 ^ p.thWidth
  /-- `RAMP` fits `TH_WIDTH` bits. -/
  ramp_lt : s.ramp < 2 ^ p.thWidth
  /-- `LEDSEL` fits `LED_IDX_WIDTH` bits. -/
  ledsel_lt : s.ledsel < 2 ^ p.ledIdxWidth
  /-- Every request's index fits `LED_IDX_WIDTH` bits. -/
  reqs_lt : ∀ r ∈ s.requests, r.idx < 2 ^ p.ledIdxWidth

/-- `ON` is true of the LED it caches: an index that names no LED has none to disagree with (R23). -/
abbrev CacheAgrees (s : State) : Prop :=
  s.ledsel < Config.numLeds → s.onState = s.ledOut.getLsbD s.ledsel

/-- No cycle of the schedule has `rst` = 1. -/
abbrev NoReset (s : State) : Prop := ∀ inp ∈ s.inputs, inp.rst = false

/-- The inputs of two cycles agree on everything that the block looks at: `rst` hides the rest (R122), and
`cmd_valid` = 0 hides `cmd` (R31). -/
abbrev SameSample (a b : Inputs) : Prop :=
  a.rst = b.rst ∧ (a.rst = false →
    a.fastTick = b.fastTick ∧ a.slowTick = b.slowTick ∧ a.stepEn = b.stepEn ∧ a.cmdValid = b.cmdValid ∧
    (a.cmdValid = true → a.cmd = b.cmd))

/-- The states a block with the parameters `p` can be in after reset under some input schedule (R22, R121). -/
inductive Reachable (p : Config.Params) : State → Prop where
  /-- `ResetState`, before any schedule of inputs. -/
  | reset (inputs : List Inputs) : Reachable p { State.reset with inputs := inputs }
  /-- One clock cycle later. -/
  | step {s t : State} : Reachable p s → stepFor p s = .next t → Reachable p t

/-- `RAMP` after `n` passed gates from 0: up to `PERIOD`, down to 0, and again (R91). -/
def pingPong (p : Config.Params) (n : Nat) : Nat :=
  let m := n % (2 * p.period)
  if m ≤ p.period then m else 2 * p.period - m

/-- `DIR` after `n` passed gates from 0: +1 on the way up, the step that lands on `PERIOD` included, -1 on
the way down, the step that lands on 0 included, and 0 before the first (R91). -/
def pingPongDir (p : Config.Params) (n : Nat) : Dir :=
  if n = 0 then .unset
  else if 1 ≤ n % (2 * p.period) ∧ n % (2 * p.period) ≤ p.period then .up else .down

/-- The place of an operation in a cycle: fast tick, slow tick, command, step (R102). -/
def cycleRank : Instr → Nat
  | .fastTick => 0
  | .slowTick => 1
  | .nop => 2
  | .glow _ _ => 2
  | .pulse _ => 2
  | .setled _ _ => 2
  | .rsvd => 2
  | .step => 3

/-- `f` done `n` times. -/
def timesDo (f : State → State) : Nat → State → State
  | 0, s => s
  | n + 1, s => timesDo f n (f s)

/-- `cycle { FAST_TICK, STEP }` (R54). -/
def fastStepCycle : Inputs := { Inputs.quiet with fastTick := true, stepEn := true }

/-- `cycle { SLOW_TICK, STEP }` (R54). -/
def slowStepCycle : Inputs := { Inputs.quiet with slowTick := true, stepEn := true }

end Sys2Proof.Machine
end

