-- ==== Sys2Proof/Certificates/Slice0/Obligations.lean ====
section
/-! DEFINITION. The statements for the provers. Each docstring names the rules of spec/ it formalises. A
statement about `execFor p`, `stepFor p` or `coreFor p` is about the block with the parameters `p`, for
every set or for every legal one (spec/00_scope.md rules R6, R7); `exec`, `step` and `core` are the block
with the defaults, and `DefaultsGiveTheHostsMachine` says that they are its instance (log entry 1). -/

open Sys2Proof Sys2Proof.Machine

/-! ### Encoding -/

/-- In every legal set, the encoding of every well-formed operation decodes to it alone, with every operand at
every value of its field, and a command word has `CMD_WIDTH` bits (R46 to R50). -/
def Obligations.DecodeEncodeRoundTrip : Prop :=
  ∀ (p : Config.Params) (i : Instr), p.legal = true → i.wellFormed p = true →
    decode p (encode p i) = [i] ∧ ∀ w, encode p i = .cmd w → w < 2 ^ p.cmdWidth

/-- The command words and event vectors written out in spec/30_encoding.md section 5 and rule R46, and those
of spec/95_test_vectors.md section 2.1, E2, E15, E25, E26, E30, with junk in ignored fields. -/
def Obligations.WordsWrittenOutInTheSpecDecode : Prop :=
  [0x0000, 0x0B23, 0x24FA, 0x23F4, 0x21F5].map (decodeCmd Config.params) =
    [.nop, .nop, .glow 2 250, .glow 1 500, .glow 0 501] ∧
  [0x4000, 0x4600, 0x4555].map (decodeCmd Config.params) = [.pulse 0, .pulse 3, .pulse 2] ∧
  [0x6601, 0x6A01, 0x67FF, 0x67FE].map (decodeCmd Config.params) =
    [.setled 3 true, .setled 5 true, .setled 3 true, .setled 3 false] ∧
  [0x8000, 0xFFFF].map (decodeCmd Config.params) = [.rsvd, .rsvd] ∧
  [0b001, 0b010, 0b100].map decodeEv = [[.fastTick], [.slowTick], [.step]]

/-- R48, R49: a command word read as a number is `op * 8192 + led * 512 + arg`; `op` selects the command,
`led` is used as it stands, `T` is the whole `arg`, and `on` is bit 0. The second clause says the same for
every legal set, whose fields have other widths. -/
def Obligations.CommandWordFieldsSelectAndFillTheCommand : Prop :=
  (∀ w : Nat, w < 65536 →
    (w / 8192 = 0 → decodeCmd Config.params w = .nop) ∧
    (w / 8192 = 1 → decodeCmd Config.params w = .glow (w / 512 % 16) (w % 512)) ∧
    (w / 8192 = 2 → decodeCmd Config.params w = .pulse (w / 512 % 16)) ∧
    (w / 8192 = 3 → decodeCmd Config.params w = .setled (w / 512 % 16) (decide (w % 2 = 1))) ∧
    (4 ≤ w / 8192 → decodeCmd Config.params w = .rsvd)) ∧
  (∀ (p : Config.Params) (op led arg : Nat), p.legal = true → op < 8 → led < 2 ^ p.ledIdxWidth →
    arg < 2 ^ p.thWidth →
    decodeCmd p (op * 2 ^ (p.ledIdxWidth + p.thWidth) + led * 2 ^ p.thWidth + arg) =
      if op = 0 then .nop else if op = 1 then .glow led arg else if op = 2 then .pulse led
      else if op = 3 then .setled led (decide (arg % 2 = 1)) else .rsvd)

/-- R50: an ignored field may hold any value; only the bits that the table of R48 marks as used are looked
at. The words are those of a legal set, `CMD_WIDTH` bits wide. -/
def Obligations.IgnoredFieldsHaveNoEffect : Prop :=
  ∀ (p : Config.Params) (v w : Nat), p.legal = true → v < 2 ^ p.cmdWidth → w < 2 ^ p.cmdWidth →
    let op := fun x => x / 2 ^ (p.ledIdxWidth + p.thWidth)
    (op v = 0 → op w = 0 → decodeCmd p v = decodeCmd p w) ∧
    (op v = 2 → w / 2 ^ p.thWidth = v / 2 ^ p.thWidth → decodeCmd p v = decodeCmd p w) ∧
    (op v = 3 → w / 2 ^ p.thWidth = v / 2 ^ p.thWidth → w % 2 = v % 2 →
      decodeCmd p v = decodeCmd p w) ∧
    (4 ≤ op v → 4 ≤ op w → decodeCmd p v = decodeCmd p w)

/-- R52: every command word decodes to a command, whose operands fit their fields; no word is rejected. R52
speaks of 16-bit words, which is `CMD_WIDTH` with the defaults (R6). That a number beyond `CMD_WIDTH` bits is
looked at modulo `2^CMD_WIDTH`, which is the third clause and the first two for `w >= 2^CMD_WIDTH`, is the
model's choice (log entry 16). -/
def Obligations.EveryWordDecodesToAWellFormedCommand : Prop :=
  ∀ (p : Config.Params) (w : Nat),
    (decodeCmd p w).isCommand = true ∧ (decodeCmd p w).wellFormed p = true ∧
    decodeCmd p (w % 2 ^ p.cmdWidth) = decodeCmd p w

/-- R46: the three bits of the event vector are independent, each selects its operation, the vector 0
selects none, and bit 2 is `step_en`, bit 1 `slow_tick`, bit 0 `fast_tick`. -/
def Obligations.EventVectorBitsSelectIndependently : Prop :=
  (∀ v : EvVec,
    (Instr.fastTick ∈ decodeEv v ↔ v.getLsbD 0 = true) ∧
    (Instr.slowTick ∈ decodeEv v ↔ v.getLsbD 1 = true) ∧
    (Instr.step ∈ decodeEv v ↔ v.getLsbD 2 = true) ∧
    (∀ i ∈ decodeEv v, i = .fastTick ∨ i = .slowTick ∨ i = .step) ∧
    (decodeEv v).Nodup) ∧
  decodeEv 0 = [] ∧
  ∀ inp : Inputs, inp.ev.getLsbD 0 = inp.fastTick ∧ inp.ev.getLsbD 1 = inp.slowTick ∧
    inp.ev.getLsbD 2 = inp.stepEn

/-- R54, R102: the inputs that present a well-formed `cycle { a, b, … }` select exactly the operations that
stand in it, in the fixed order, whatever their order inside the braces. -/
def Obligations.PresentedCycleSelectsItsOperationsInOrder : Prop :=
  ∀ (p : Config.Params) (ops : List Instr), p.legal = true → wellFormedCycle p ops = true →
    (decodeInputs p (presentCycle p ops)).Perm ops ∧
    (decodeInputs p (presentCycle p ops)).Pairwise (fun a b => cycleRank a ≤ cycleRank b)

/-! ### Parameter sets -/

/-- R6, R7: the legal parameter sets. `FAST_INC` and `NUM_LEDS` are fixed, `CMD_WIDTH` is the sum of the
fields' widths, and in a legal set `DIR` holds -1, 0 and +1. -/
def Obligations.LegalParameterSetsMeetTheConstraints : Prop :=
  (∀ p : Config.Params, p.legal = true ↔
    1 ≤ p.period ∧ 1 ≤ p.pulseRate ∧ 1 ≤ p.slowInc ∧ p.period < 2 ^ p.fcWidth ∧
    p.pulseRate + p.slowInc < 2 ^ p.scWidth ∧ p.period < 2 ^ p.thWidth ∧ 2 ≤ p.dirWidth ∧
    4 < 2 ^ p.ledIdxWidth) ∧
  (∀ p : Config.Params, p.cmdWidth = 3 + p.ledIdxWidth + p.thWidth) ∧
  (∀ (p : Config.Params) (d : Dir), p.legal = true → (d.bits p).toInt = d.value) ∧
  Config.fastInc = 1 ∧ Config.numLeds = 4 ∧ Config.params.legal = true

/-- R5, R6: `exec`, `step` and `core` are the block with the default parameters. -/
def Obligations.DefaultsGiveTheHostsMachine : Prop :=
  Config.params = { period := 500, pulseRate := 10, slowInc := 5, fcWidth := 16, scWidth := 16, thWidth := 9,
                    dirWidth := 2, ledIdxWidth := 4 } ∧
  (∀ (i : Instr) (s : State), exec i s = execFor Config.params i s) ∧
  (∀ s : State, step s = stepFor Config.params s) ∧
  core = coreFor Config.params

/-! ### The cycle -/

/-- A step is `exec` of the decoded operation, after the model's bookkeeping of the cycle: the sample is
taken off the schedule, the last cycle's requests join the past ones, and the cycle is counted. The first
clause is for a schedule whose head selects one operation, the second for `withFetchWord`, the third for
the encoder's words, the fourth for every parameter set. -/
def Obligations.StepRunsTheDecodedInstruction : Prop :=
  (∀ (s : State) (inp : Inputs) (rest : List Inputs) (i : Instr),
    s.inputs = inp :: rest → inp.rst = false → decodeInputs Config.params inp = [i] →
    step s = exec i { s with inputs := rest, pastReqs := s.pastReqs ++ s.cycleReqs, cycleReqs := [],
                             cycle := s.cycle + 1 }) ∧
  (∀ (s : State) (nbits w : Nat) (i : Instr), decode Config.params (tableCode nbits w) = [i] →
    decodeTableWord nbits w = some i ∧
    step (s.withFetchWord nbits w) =
      exec i { s with inputs := s.inputs.tail, pastReqs := s.pastReqs ++ s.cycleReqs, cycleReqs := [],
                      cycle := s.cycle + 1 }) ∧
  (∀ (s : State) (rest : List Inputs) (i : Instr), i.wellFormed Config.params = true →
    s.inputs = (encode Config.params i).inputs :: rest →
    step s = exec i { s with inputs := rest, pastReqs := s.pastReqs ++ s.cycleReqs, cycleReqs := [],
                             cycle := s.cycle + 1 }) ∧
  (∀ (p : Config.Params) (s : State) (inp : Inputs) (rest : List Inputs) (i : Instr),
    s.inputs = inp :: rest → inp.rst = false → decodeInputs p inp = [i] →
    stepFor p s = execFor p i { s with inputs := rest, pastReqs := s.pastReqs ++ s.cycleReqs,
                                       cycleReqs := [], cycle := s.cycle + 1 })

/-- R102: with `rst` = 1 the cycle gives `ResetState` and emits nothing; with `rst` = 0 it runs `FAST_TICK`,
`SLOW_TICK`, the command and `STEP`, those that are selected, in this order, each seeing the state the
one before left. -/
def Obligations.CycleRunsTicksThenCommandThenStep : Prop :=
  ∀ (p : Config.Params) (s : State) (inp : Inputs) (rest : List Inputs), s.inputs = inp :: rest →
    (inp.rst = true → ∃ t, stepFor p s = .next t ∧ t.regs = State.reset.regs ∧ t.cycleReqs = []) ∧
    (inp.rst = false → ∃ a b c d : State,
      (inp.fastTick = true → execFor p .fastTick (beginCycle s) = .next a) ∧
      (inp.fastTick = false → a = beginCycle s) ∧
      (inp.slowTick = true → execFor p .slowTick a = .next b) ∧ (inp.slowTick = false → b = a) ∧
      (inp.cmdValid = true → execFor p (decodeCmd p inp.cmd) b = .next c) ∧ (inp.cmdValid = false → c = b) ∧
      (inp.stepEn = true → execFor p .step c = .next d) ∧ (inp.stepEn = false → d = c) ∧
      stepFor p s = .next d)

/-- R105: every operation and every cycle is total: for every state and every input it yields a next state
and at most one LED request, with the defaults and in every parameter set. -/
def Obligations.EveryOperationIsTotal : Prop :=
  (∀ (i : Instr) (s : State), ∃ t, exec i s = .next t ∧
    (t.cycleReqs = s.cycleReqs ∨ ∃ r, t.cycleReqs = s.cycleReqs ++ [r]) ∧ t.pastReqs = s.pastReqs) ∧
  (∀ s : State, ∃ t, step s = .next t) ∧
  (∀ (p : Config.Params) (i : Instr) (s : State), ∃ t, execFor p i s = .next t ∧
    (t.cycleReqs = s.cycleReqs ∨ ∃ r, t.cycleReqs = s.cycleReqs ++ [r]) ∧ t.pastReqs = s.pastReqs) ∧
  (∀ (p : Config.Params) (s : State), ∃ t, stepFor p s = .next t)

/-- R103: at most one LED request is emitted per cycle, in every state and for all inputs together; of the
operations only `SETLED` in mode IDLE, which leaves the mode IDLE, and `STEP` in a driver mode emit one. -/
def Obligations.AtMostOneRequestPerCycle : Prop :=
  (∀ (p : Config.Params) (s t : State), stepFor p s = .next t → t.cycleReqs.length ≤ 1) ∧
  (∀ (p : Config.Params) (i : Instr) (s t : State), execFor p i s = .next t → t.cycleReqs ≠ s.cycleReqs →
    (∃ r, t.cycleReqs = s.cycleReqs ++ [r]) ∧
    ((∃ led lit, i = .setled led lit ∧ s.mode = .idle ∧ t.mode = .idle) ∨
     (i = .step ∧ s.mode ≠ .idle)))

/-- R120, R122: a cycle with `rst` = 1 gives `ResetState` whatever the other inputs are, loses them and emits
nothing; held for any number of cycles it gives `ResetState` again, and the first cycle with `rst` = 0 runs
the operations its own inputs select, from `ResetState`. That reset keeps the list of past requests
(`t.requests = s.requests`) is read from R33 by inference (log entry 9). -/
def Obligations.ResetHasPriorityAndRestoresResetState : Prop :=
  (∀ (p : Config.Params) (s : State) (inp : Inputs) (rest : List Inputs),
    s.inputs = inp :: rest → inp.rst = true →
    ∃ t, stepFor p s = .next t ∧
      t.fc = 0 ∧ t.sc = 0 ∧ t.gth = 0 ∧ t.ramp = 0 ∧ t.dir = .unset ∧ t.onState = false ∧ t.ledsel = 0 ∧
      t.mode = .idle ∧ t.ledOut = 0 ∧ t.inputs = rest ∧ t.cycleReqs = [] ∧ t.requests = s.requests) ∧
  (∀ (p : Config.Params) (n : Nat) (held : List Inputs) (inp : Inputs) (rest : List Inputs) (s : State),
    held.length = n + 1 → (∀ h ∈ held, h.rst = true) → s.inputs = held ++ inp :: rest →
    ∃ t, Host.Core.run (coreFor p) (n + 1) s = .next t ∧ t.regs = State.reset.regs ∧
      t.requests = s.requests ∧ t.inputs = inp :: rest ∧
      (inp.rst = false → stepFor p t = runOps (execFor p) (decodeInputs p inp) (beginCycle t)))

/-- R120 and the table of spec/10_state.md section 7: the nine registers of `State.reset`; the LEDs are off.
That `led_req_valid` is 0 before any cycle is the model's choice (log entry 8). -/
def Obligations.ResetStateRegisters : Prop :=
  State.reset.fc = 0 ∧ State.reset.sc = 0 ∧ State.reset.gth = 0 ∧ State.reset.ramp = 0 ∧
  State.reset.dir = .unset ∧ State.reset.onState = false ∧ State.reset.ledsel = 0 ∧
  State.reset.mode = .idle ∧ State.reset.ledPort = 0b0000 ∧ State.reset.ledReqValid = false

/-- R31, R118: with all strobes low the block holds its state and emits nothing, whatever `cmd` is. -/
def Obligations.QuietCycleHoldsTheState : Prop :=
  ∀ (p : Config.Params) (s : State) (inp : Inputs) (rest : List Inputs),
    s.inputs = inp :: rest → inp.rst = false → inp.fastTick = false → inp.slowTick = false →
    inp.stepEn = false → inp.cmdValid = false →
    ∃ t, stepFor p s = .next t ∧ t.regs = s.regs ∧ t.cycleReqs = [] ∧ t.requests = s.requests

/-- R31, R32, R122: the next registers and the requests of a cycle depend on the registers and on this
cycle's inputs only, and not on `cmd` when `cmd_valid` = 0, nor on any other input when `rst` = 1. No
input is latched, and nothing else is state. -/
def Obligations.CycleDependsOnRegistersAndSampleOnly : Prop :=
  ∀ (p : Config.Params) (s s' t t' : State) (inp inp' : Inputs) (rest rest' : List Inputs),
    s.inputs = inp :: rest → s'.inputs = inp' :: rest' → s.regs = s'.regs → SameSample inp inp' →
    stepFor p s = .next t → stepFor p s' = .next t' → t.regs = t'.regs ∧ t.cycleReqs = t'.cycleReqs

/-- R33: in a cycle `led_req_valid` is 1 exactly when its operations emitted a request, and then
`led_req_idx` and `led_req_on` show it; a request joins the end of the request list. The ports are read
after the step that runs the cycle (log entry 8). -/
def Obligations.RequestPortsShowTheCyclesRequest : Prop :=
  ∀ (p : Config.Params) (s t : State), stepFor p s = .next t →
    (t.ledReqValid = true ↔ t.requests ≠ s.requests) ∧
    (∀ r, t.requests = s.requests ++ [r] → t.ledReqIdx p = r.idx ∧ t.ledReqOn = r.lit)

/-! ### Tick Source -/

/-- R60: `FAST_TICK` is selected by bit 0 of the event vector, adds 1 to `FC` modulo 2^16 (2^FC_WIDTH) in
every mode and touches nothing else; in particular it does not wrap at `PERIOD`. -/
def Obligations.FastTickAddsOneToFc : Prop :=
  encode Config.params .fastTick = .ev 0b001 ∧
  (∀ s : State, exec .fastTick s = .next { s with fc := (s.fc + 1) % 65536 }) ∧
  (∀ (p : Config.Params) (s : State),
    execFor p .fastTick s = .next { s with fc := (s.fc + 1) % 2 ^ p.fcWidth })

/-- R61: `SLOW_TICK` is selected by bit 1 of the event vector, adds 5 (SLOW_INC) to `SC` modulo 2^16
(2^SC_WIDTH) in every mode and touches nothing else. -/
def Obligations.SlowTickAddsFiveToSc : Prop :=
  encode Config.params .slowTick = .ev 0b010 ∧
  (∀ s : State, exec .slowTick s = .next { s with sc := (s.sc + 5) % 65536 }) ∧
  (∀ (p : Config.Params) (s : State),
    execFor p .slowTick s = .next { s with sc := (s.sc + p.slowInc) % 2 ^ p.scWidth })

/-- R42: the two ticks commute. -/
def Obligations.TicksCommute : Prop :=
  ∀ (p : Config.Params) (s : State), ∃ t, runOps (execFor p) [.fastTick, .slowTick] s = .next t ∧
    runOps (execFor p) [.slowTick, .fastTick] s = .next t

/-- R40: a fast tick that comes before the poll that wraps `FC` is lost into the wrap, and a slow tick that
comes before a passed gate is lost into the consuming reset, short of a counter's overflow. -/
def Obligations.TickBeforeWrapOrGateIsAbsorbed : Prop :=
  (∀ (p : Config.Params) (s : State), RegsInv p s → s.mode ≠ .idle → p.period ≤ s.fc →
    s.fc + 1 < 2 ^ p.fcWidth → runOps (execFor p) [.fastTick, .step] s = execFor p .step s) ∧
  (∀ (p : Config.Params) (s : State), s.mode = .pulse → p.pulseRate ≤ s.sc →
    s.sc + p.slowInc < 2 ^ p.scWidth → runOps (execFor p) [.slowTick, .step] s = execFor p .step s)

/-! ### LED Output -/

/-- R65: `SETLED_OP` emits its request always, writes the one bit its index names, leaves the other bits,
and with an index that names no LED leaves `LED_OUT` unchanged; it touches nothing else. -/
def Obligations.SetledOpWritesOneBitAndEmits : Prop :=
  ∀ (idx : Nat) (lit : Bool) (s : State), ∃ v : LedPattern,
    setledOp idx lit s = { s with ledOut := v, cycleReqs := s.cycleReqs ++ [⟨idx, lit⟩] } ∧
    (idx < 4 → ∀ j < 4, v.getLsbD j = if j = idx then lit else s.ledOut.getLsbD j) ∧
    (4 ≤ idx → v = s.ledOut)

/-- R67: `SETLED` in mode IDLE emits one request and writes at most one bit of `LED_OUT`, `MODE` and every
other register unchanged; in the other modes it does nothing. -/
def Obligations.SetledActsInIdleOnly : Prop :=
  decodeCmd Config.params 0x6601 = .setled 3 true ∧
  (∀ (led : Nat) (lit : Bool) (s : State),
    (s.mode = .idle → ∃ t, exec (.setled led lit) s = .next t ∧
      t = { s with ledOut := t.ledOut, cycleReqs := s.cycleReqs ++ [⟨led, lit⟩] } ∧
      (∀ j < 4, t.ledOut.getLsbD j = if j = led then lit else s.ledOut.getLsbD j)) ∧
    (s.mode ≠ .idle → exec (.setled led lit) s = .next s)) ∧
  (∀ (p : Config.Params) (led : Nat) (lit : Bool) (s : State),
    execFor p (.setled led lit) s = exec (.setled led lit) s)

/-- R66: `led[i]` is bit `i` of `LED_OUT`, bit 0 the least significant: 0xF is all four on, 0x1 only LED 0,
0x6 LEDs 1 and 2, 0x0 all off. -/
def Obligations.LedPatternBitsAreLogicalLeds : Prop :=
  ∀ s : State,
    (∀ i < 4, s.ledPort.getLsbD i = s.ledOut.getLsbD i) ∧
    (s.ledPort = 0xF ↔ ∀ i < 4, s.ledOut.getLsbD i = true) ∧
    (s.ledPort = 0x1 ↔ ∀ i < 4, s.ledOut.getLsbD i = decide (i = 0)) ∧
    (s.ledPort = 0x6 ↔ ∀ i < 4, s.ledOut.getLsbD i = decide (i = 1 ∨ i = 2)) ∧
    (s.ledPort = 0x0 ↔ ∀ i < 4, s.ledOut.getLsbD i = false)

/-- R68: `LED_OUT` changes only through requests: after an operation, and after a cycle without reset, it is
what it was with the emitted requests applied one after another; `GLOW` and `PULSE` do not touch it. -/
def Obligations.LedOutChangesOnlyThroughRequests : Prop :=
  (∀ (p : Config.Params) (i : Instr) (s t : State), execFor p i s = .next t →
    ∃ rs, t.cycleReqs = s.cycleReqs ++ rs ∧ t.ledOut = writeLeds s.ledOut rs) ∧
  (∀ (p : Config.Params) (s t : State), (nextInputs s).rst = false → stepFor p s = .next t →
    t.ledOut = writeLeds s.ledOut t.cycleReqs) ∧
  (∀ (p : Config.Params) (led th : Nat) (s t : State),
    (execFor p (.glow led th) s = .next t ∨ execFor p (.pulse led) s = .next t) →
    t.ledOut = s.ledOut ∧ t.cycleReqs = s.cycleReqs)

/-- R18, R23: no operation reads `LED_OUT`: two blocks that differ in it alone stay alike in everything
else. -/
def Obligations.LedOutIsReadByNoOperation : Prop :=
  ∀ (p : Config.Params) (s t : State) (v : LedPattern), stepFor p s = .next t →
    ∃ w, stepFor p { s with ledOut := v } = .next { t with ledOut := w }

/-- R106: an LED index out of 0 to 3 is checked at the LED Output alone: a driver on such an index leaves
`LED_OUT` unchanged while `FC`, `ON` and the number of requests go as for any other index, and a `SETLED`
of such an index is recorded and writes nothing. -/
def Obligations.MissingLedIsIgnoredAtTheOutputOnly : Prop :=
  (∀ (p : Config.Params) (i : Instr) (s t : State), s.mode ≠ .idle → 4 ≤ s.ledsel →
    execFor p i s = .next t → t.ledOut = s.ledOut) ∧
  (∀ (p : Config.Params) (s : State) (led : Nat), ∃ t u, execFor p .step s = .next t ∧
    execFor p .step { s with ledsel := led } = .next u ∧ u.onState = t.onState ∧ u.fc = t.fc ∧
    u.cycleReqs.length = t.cycleReqs.length) ∧
  (∀ (p : Config.Params) (led : Nat) (lit : Bool) (s : State), s.mode = .idle → 4 ≤ led →
    execFor p (.setled led lit) s = .next { s with cycleReqs := s.cycleReqs ++ [⟨led, lit⟩] })

/-! ### PWM Engine -/

/-- R70, R72, R74: `APPLY` in its three regions, for every parameter set and every threshold: the LED is
commanded on below `T`, off from `T` up to `PERIOD`, and at `PERIOD` or beyond `FC` is cleared; a request
is emitted exactly when `ON` changes, at most one; nothing else is touched. -/
def Obligations.ApplyCommandsByRegion : Prop :=
  ∀ (p : Config.Params) (idx t : Nat) (s : State), ∃ (u : State) (rs : List LedReq),
    applyOp p idx t s = u ∧
    u = { s with fc := u.fc, onState := u.onState, ledOut := u.ledOut, cycleReqs := u.cycleReqs } ∧
    u.cycleReqs = s.cycleReqs ++ rs ∧ u.ledOut = writeLeds s.ledOut rs ∧ rs.length ≤ 1 ∧
    (s.fc < t → u.onState = true ∧ u.fc = s.fc ∧ rs = if s.onState then [] else [⟨idx, true⟩]) ∧
    (t ≤ s.fc → s.fc < p.period →
      u.onState = false ∧ u.fc = s.fc ∧ rs = if s.onState then [⟨idx, false⟩] else []) ∧
    (t ≤ s.fc → p.period ≤ s.fc → u.onState = s.onState ∧ u.fc = 0 ∧ rs = [])

/-- R73: with `FC` below `PERIOD` a second `APPLY` changes no register and emits nothing; at `PERIOD` or
beyond the first clears `FC`; a request is emitted exactly when `ON` changes. -/
def Obligations.ApplyIsIdempotentBelowPeriod : Prop :=
  ∀ (p : Config.Params) (idx t : Nat) (s : State),
    (s.fc < p.period → applyOp p idx t (applyOp p idx t s) = applyOp p idx t s) ∧
    (t ≤ p.period → p.period ≤ s.fc → (applyOp p idx t s).fc = 0) ∧
    ((applyOp p idx t s).cycleReqs ≠ s.cycleReqs ↔ (applyOp p idx t s).onState ≠ s.onState)

/-- R76: region C writes `FC <- 0` and nothing else, whatever the excess; when it finds `ON` = 1, the next
`APPLY`, reading `F` = 0 below `T`, changes nothing and emits nothing; and no operation but a `STEP` of a
running driver that reads `FC >= PERIOD` clears the counter: every other change of `FC` is a fast tick's
increment. -/
def Obligations.ApplyIsTheSoleWrapPoint : Prop :=
  (∀ (p : Config.Params) (idx t : Nat) (s : State), t ≤ p.period → p.period ≤ s.fc →
    applyOp p idx t s = { s with fc := 0 } ∧
    (s.onState = true → 0 < t → applyOp p idx t { s with fc := 0 } = { s with fc := 0 })) ∧
  (∀ (p : Config.Params) (i : Instr) (s t : State), execFor p i s = .next t → t.fc ≠ s.fc →
    (i = .fastTick ∧ t.fc = (s.fc + 1) % 2 ^ p.fcWidth) ∨
    (i = .step ∧ s.mode ≠ .idle ∧ p.period ≤ s.fc ∧ t.fc = 0))

/-- R77, first half: with `T` = 0 and `ON` = 0 the Glow Driver emits no request over any run without reset,
whatever ticks, steps and commands come: the output stays as it was for all polls. -/
def Obligations.GlowAtThresholdZeroNeverRequests : Prop :=
  ∀ (p : Config.Params) (k : Nat) (s : State), s.mode = .glow → s.gth = 0 → s.onState = false → NoReset s →
    ∃ t : State, Host.Core.run (coreFor p) k s = .next t ∧ t.requests = s.requests ∧ t.ledOut = s.ledOut ∧
      t.onState = false

/-- R77, second half: with `T` = `PERIOD` the first `STEP` that polls `FC` below `PERIOD` with `ON` = 0
emits the request that switches the LED on, and over any run without reset, through every wrap, the Glow
Driver emits that one request or, when `ON` was 1 or no such poll has come yet, none. -/
def Obligations.GlowAtThresholdPeriodRequestsOnce : Prop :=
  (∀ (p : Config.Params) (s : State), s.mode = .glow → s.gth = p.period → s.onState = false →
    s.fc < p.period → ∃ t, execFor p .step s = .next t ∧ t.onState = true ∧
      t.requests = s.requests ++ [⟨s.ledsel, true⟩]) ∧
  (∀ (p : Config.Params) (k : Nat) (s : State), s.mode = .glow → s.gth = p.period → NoReset s →
    ∃ t : State, Host.Core.run (coreFor p) k s = .next t ∧
      ((t.requests = s.requests ∧ t.onState = s.onState) ∨
       (s.onState = false ∧ t.onState = true ∧ t.requests = s.requests ++ [⟨s.ledsel, true⟩])))

/-- R73, over a whole run: the requests of a running driver all name its LED and switch it alternately, the
first one away from what `ON` was, and `ON` is what the last one said. No write is redundant. -/
def Obligations.DriverRequestsAlternate : Prop :=
  ∀ (p : Config.Params) (k : Nat) (s : State), s.mode ≠ .idle → NoReset s →
    ∃ (t : State) (rs : List LedReq), Host.Core.run (coreFor p) k s = .next t ∧
      t.requests = s.requests ++ rs ∧
      (∀ r ∈ rs, r.idx = s.ledsel) ∧
      (∀ n r, rs[n]? = some r → r.lit = if n % 2 = 0 then !s.onState else s.onState) ∧
      t.onState = if rs.length % 2 = 0 then s.onState else !s.onState

/-- R130: an LED other than the driven one keeps whatever the host set, over any run without reset. -/
def Obligations.OtherLedsKeepWhatTheHostSet : Prop :=
  ∀ (p : Config.Params) (k : Nat) (s : State), s.mode ≠ .idle → NoReset s →
    ∃ t : State, Host.Core.run (coreFor p) k s = .next t ∧
      ∀ j < 4, j ≠ s.ledsel → t.ledOut.getLsbD j = s.ledOut.getLsbD j

/-! ### Glow Driver -/

/-- R80: `GLOW` in mode IDLE with `T <= PERIOD` writes `GTH`, `LEDSEL`, `ON` = 0 and `MODE` = GLOW and nothing
else, whatever the LED index; otherwise it changes nothing. -/
def Obligations.GlowStartsTheDriver : Prop :=
  decodeCmd Config.params 0x24FA = .glow 2 250 ∧
  (∀ (led t : Nat) (s : State),
    (s.mode = .idle → t ≤ 500 →
      exec (.glow led t) s = .next { s with gth := t, ledsel := led, onState := false, mode := .glow }) ∧
    ((s.mode ≠ .idle ∨ 500 < t) → exec (.glow led t) s = .next s)) ∧
  (∀ (p : Config.Params) (led t : Nat) (s : State),
    (s.mode = .idle → t ≤ p.period →
      execFor p (.glow led t) s =
        .next { s with gth := t, ledsel := led, onState := false, mode := .glow }) ∧
    ((s.mode ≠ .idle ∨ p.period < t) → execFor p (.glow led t) s = .next s))

/-- R81: a `GLOW` with `T > PERIOD` changes nothing, and a later valid one is still accepted. -/
def Obligations.OutOfRangeGlowLeavesIdleForALaterOne : Prop :=
  ∀ (p : Config.Params) (led led' t t' : Nat) (s : State), s.mode = .idle → p.period < t →
    execFor p (.glow led t) s = .next s ∧
    (t' ≤ p.period → ∃ u, runOps (execFor p) [.glow led t, .glow led' t'] s = .next u ∧
      u.mode = .glow ∧ u.gth = t' ∧ u.ledsel = led' ∧ u.cycleReqs = s.cycleReqs)

/-- R82: in mode GLOW a `STEP` is one `APPLY` of `LEDSEL` and `GTH`; it never writes `GTH`, `LEDSEL` or
`MODE`. -/
def Obligations.StepInGlowAppliesTheGlowThreshold : Prop :=
  (∀ (p : Config.Params) (s : State), s.mode = .glow → ∃ t, execFor p .step s = .next t ∧
    t = applyOp p s.ledsel s.gth s ∧
    t = { s with fc := t.fc, onState := t.onState, ledOut := t.ledOut, cycleReqs := t.cycleReqs }) ∧
  (∀ s : State, s.mode = .glow → exec .step s = .next (applyOp Config.params s.ledsel s.gth s))

/-- R83, R95: a running driver never ends: over any run without reset `MODE`, `LEDSEL` and `GTH` keep their
values, and every command is ignored. -/
def Obligations.DriversRunUntilReset : Prop :=
  (∀ (p : Config.Params) (k : Nat) (s : State), s.mode ≠ .idle → NoReset s →
    ∃ t : State, Host.Core.run (coreFor p) k s = .next t ∧ t.mode = s.mode ∧ t.ledsel = s.ledsel ∧
      t.gth = s.gth) ∧
  (∀ (p : Config.Params) (i : Instr) (s : State), s.mode ≠ .idle → i.isCommand = true →
    execFor p i s = .next s)

/-- R85: the Glow Driver when a `STEP` runs after every `FAST_TICK`, in every legal set with `PERIOD >= 2`:
started from `ResetState` with threshold `T`, after `k` cycles `FC` is `k mod PERIOD`, the LED is on exactly
while `1 <= k mod PERIOD < T`, or, with `T` = `PERIOD`, from the first cycle on, and the other LEDs are off.
With `1 <= T <= PERIOD - 1` the residues it is on at are `T - 1` of the `PERIOD`. -/
def Obligations.GlowDutyCycleWithOneStepPerTick : Prop :=
  (∀ (p : Config.Params) (led th k : Nat), p.legal = true → 2 ≤ p.period → led < 4 → th ≤ p.period →
    ∃ t : State,
      Host.Core.run (coreFor p) (k + 1)
        { State.reset with
          inputs := (encode p (.glow led th)).inputs :: List.replicate k fastStepCycle } = .next t ∧
      t.fc = k % p.period ∧ t.mode = .glow ∧ t.gth = th ∧ t.ledsel = led ∧
      (t.ledPort.getLsbD led = true ↔
        (1 ≤ k % p.period ∧ k % p.period < th) ∨ (th = p.period ∧ 1 ≤ k)) ∧
      (∀ j < 4, j ≠ led → t.ledPort.getLsbD j = false)) ∧
  (∀ (p : Config.Params) (th : Nat), 1 ≤ th → th < p.period →
    (List.range p.period).countP (fun m => decide (1 ≤ m ∧ m < th)) = th - 1)

/-- R84: `GLOWB led, b` becomes `GLOW led, T` with `T` = `PERIOD * b` rounded to the nearest integer, a tie
upwards, for `0.0 <= b <= 1.0`, always within `[0, PERIOD]`, and becomes nothing otherwise. `b` is a
rational number, the model's choice (log entry 13). -/
def Obligations.BrightnessRoundsHalfUpOrIsRefused : Prop :=
  ∀ (p : Config.Params) (led : Nat) (b : Rat),
    (0 ≤ b → b ≤ 1 → ∃ th : Nat, expandGlowb p led b = some (.glow led th) ∧ th ≤ p.period ∧
      (th : Rat) ≤ (p.period : Rat) * b + 1 / 2 ∧
      (p.period : Rat) * b + 1 / 2 < (th : Rat) + 1 ∧
      (p.legal = true → ledFits p led = true → (Instr.glow led th).wellFormed p = true)) ∧
    ((b < 0 ∨ 1 < b) → expandGlowb p led b = none)

/-- R124: at an accepted driver start `ON` = 0, `GTH` = `T` for `GLOW`, `RAMP` = 0 and `DIR` = 0 for `PULSE`,
and `FC`, `SC` and `LED_OUT` are not touched. -/
def Obligations.DriverStartValues : Prop :=
  ∀ (p : Config.Params) (i : Instr) (s t : State), s.mode = .idle → execFor p i s = .next t → t.mode ≠ .idle →
    t.onState = false ∧ t.fc = s.fc ∧ t.sc = s.sc ∧ t.ledOut = s.ledOut ∧
    ((∃ led th, i = .glow led th ∧ t.gth = th) ∨
     (∃ led, i = .pulse led ∧ t.ramp = 0 ∧ t.dir = .unset))

/-! ### Pulse Glow Driver -/

/-- R87: `PULSE` in mode IDLE writes `RAMP` = 0, `DIR` = 0, `ON` = 0, `LEDSEL` and `MODE` = PULSE and nothing
else, whatever the LED index and the `arg` field; otherwise it changes nothing. -/
def Obligations.PulseStartsTheDriver : Prop :=
  decodeCmd Config.params 0x4000 = .pulse 0 ∧
  (∀ (led : Nat) (s : State),
    (s.mode = .idle → exec (.pulse led) s =
      .next { s with ramp := 0, dir := .unset, onState := false, ledsel := led, mode := .pulse }) ∧
    (s.mode ≠ .idle → exec (.pulse led) s = .next s)) ∧
  (∀ (p : Config.Params) (led : Nat) (s : State), execFor p (.pulse led) s = exec (.pulse led) s)

/-- R88: in mode PULSE a `STEP` is `APPLY` of `LEDSEL` and the old `RAMP`, and then, when `SC >= PULSE_RATE`,
the direction selection, the addition of the new `DIR` modulo `2^TH_WIDTH` and the clearing of `SC`; nothing
else is touched. -/
def Obligations.StepInPulseAppliesThenPassesTheGate : Prop :=
  (∀ (p : Config.Params) (s : State), p.legal = true → s.mode = .pulse →
    ∃ t, execFor p .step s = .next t ∧
    (s.sc < p.pulseRate → t = applyOp p s.ledsel s.ramp s) ∧
    (p.pulseRate ≤ s.sc →
      t = { applyOp p s.ledsel s.ramp s with dir := t.dir, ramp := t.ramp, sc := 0 } ∧
      (s.dir = .up → s.ramp < p.period → t.dir = .up ∧ t.ramp = s.ramp + 1) ∧
      (s.dir = .up → p.period ≤ s.ramp → t.dir = .down ∧ t.ramp = (s.ramp - 1) % 2 ^ p.thWidth) ∧
      (s.dir ≠ .up → 0 < s.ramp → t.dir = .down ∧ t.ramp = (s.ramp - 1) % 2 ^ p.thWidth) ∧
      (s.dir ≠ .up → s.ramp = 0 → t.dir = .up ∧ t.ramp = 1))) ∧
  (∀ s : State, s.mode = .pulse → ∃ t, exec .step s = .next t ∧
    (s.sc < 10 → t = applyOp Config.params s.ledsel s.ramp s) ∧
    (10 ≤ s.sc → t = passGate Config.params (applyOp Config.params s.ledsel s.ramp s)))

/-- R89: the direction table, for every legal parameter set and `RAMP` in `[0, PERIOD]`. -/
def Obligations.RampStepFollowsTheDirectionTable : Prop :=
  ∀ (p : Config.Params) (s : State), p.legal = true → s.ramp ≤ p.period →
    (s.dir = .up → s.ramp < p.period →
      (passGate p s).dir = .up ∧ (passGate p s).ramp = s.ramp + 1) ∧
    (s.dir = .up → s.ramp = p.period →
      (passGate p s).dir = .down ∧ (passGate p s).ramp = p.period - 1) ∧
    (s.dir ≠ .up → 0 < s.ramp →
      (passGate p s).dir = .down ∧ (passGate p s).ramp = s.ramp - 1) ∧
    (s.dir ≠ .up → s.ramp = 0 →
      (passGate p s).dir = .up ∧ (passGate p s).ramp = 1) ∧
    (passGate p s).dir ≠ .unset

/-- R91: from `RAMP` = 0, `DIR` = 0, the passed gates walk `RAMP` up to `PERIOD` and back for ever, within
`[0, PERIOD]`, with period `2 * PERIOD`, for every legal parameter set. -/
def Obligations.RampPingPongsBetweenZeroAndPeriod : Prop :=
  ∀ (p : Config.Params) (n : Nat) (s : State), p.legal = true → s.ramp = 0 → s.dir = .unset →
    (timesDo (passGate p) n s).ramp = pingPong p n ∧
    (timesDo (passGate p) n s).dir = pingPongDir p n ∧
    (timesDo (passGate p) n s).ramp ≤ p.period

/-- R93: on the first gated step, with `DIR` = 0 and `RAMP` = 0, the direction chosen is +1. -/
def Obligations.FirstGatedStepClimbs : Prop :=
  ∀ (p : Config.Params) (s : State), p.legal = true → s.mode = .pulse → s.ramp = 0 → s.dir = .unset →
    p.pulseRate ≤ s.sc → ∃ t, execFor p .step s = .next t ∧ t.dir = .up ∧ t.ramp = 1 ∧ t.sc = 0

/-- R90: a passed gate moves `RAMP` by exactly one unit in the direction just chosen and clears `SC`, however
far above `PULSE_RATE` it had grown: the surplus leaves no trace. -/
def Obligations.PassedGateStepsOnceAndConsumesSurplus : Prop :=
  ∀ (p : Config.Params) (s : State), p.legal = true → s.mode = .pulse → s.ramp ≤ p.period →
    p.pulseRate ≤ s.sc →
    ∃ t, execFor p .step s = .next t ∧ t.sc = 0 ∧
      ((t.dir = .up ∧ t.ramp = s.ramp + 1) ∨ (t.dir = .down ∧ t.ramp + 1 = s.ramp)) ∧
      ∀ v : Nat, p.pulseRate ≤ v → execFor p .step { s with sc := v } = .next t

/-- R92, R136: with the default parameters two slow ticks open the gate: with one `STEP` after every
`SLOW_TICK` and `SC` = 0 at the start, `RAMP` is at its `n`-th ping-pong value after `2 n` cycles, so it
reaches `PERIOD` and comes back. -/
def Obligations.RampAdvancesEverySecondSlowTick : Prop :=
  ∀ (n : Nat) (s : State), s.mode = .pulse → s.ramp = 0 → s.dir = .unset → s.sc = 0 →
    s.inputs = List.replicate (2 * n) slowStepCycle →
    ∃ t : State, Host.Core.run core (2 * n) s = .next t ∧ t.ramp = pingPong Config.params n ∧
      t.dir = pingPongDir Config.params n ∧ t.sc = 0 ∧ t.mode = .pulse

/-! ### Control -/

/-- R97, R98: `NOP` and the reserved commands change nothing and emit nothing in every mode, whatever the
ignored bits are. -/
def Obligations.NopAndReservedCommandsDoNothing : Prop :=
  (∀ s : State, exec .nop s = .next s ∧ exec .rsvd s = .next s) ∧
  (∀ (w : Nat) (s : State), w < 8192 ∨ (32768 ≤ w ∧ w < 65536) →
    exec (decodeCmd Config.params w) s = .next s) ∧
  (∀ (p : Config.Params) (w : Nat) (s : State), cmdOp p w = 0 ∨ 4 ≤ cmdOp p w →
    execFor p (decodeCmd p w) s = .next s)

/-- R99: outside mode IDLE every command word is ignored, and `MODE` changes only by an accepted `GLOW` or
`PULSE`, from IDLE. -/
def Obligations.CommandsActInIdleOnlyAndStartOneDriver : Prop :=
  (∀ (p : Config.Params) (w : Nat) (s : State), s.mode ≠ .idle →
    execFor p (decodeCmd p w) s = .next s) ∧
  (∀ (p : Config.Params) (i : Instr) (s t : State), execFor p i s = .next t → t.mode ≠ s.mode →
    s.mode = .idle ∧
    ((∃ led th, i = .glow led th ∧ t.mode = .glow) ∨ (∃ led, i = .pulse led ∧ t.mode = .pulse)))

/-- R101: in mode IDLE a `STEP` changes nothing and emits nothing; it does not wrap `FC`. -/
def Obligations.StepInIdleChangesNothing : Prop :=
  (∀ s : State, s.mode = .idle → exec .step s = .next s) ∧
  (∀ (p : Config.Params) (s : State), s.mode = .idle → execFor p .step s = .next s)

/-! ### Invariants and hazards -/

/-- `ResetState` meets the invariant of R22 in every parameter set, whatever inputs are scheduled. -/
def Obligations.ResetMeetsTheRegisterInvariant : Prop :=
  ∀ (p : Config.Params) (inputs : List Inputs), RegsInv p { State.reset with inputs := inputs }

/-- R22 (c) to (g) are kept by every operation and by every cycle, from every state that meets them, with the
defaults and in every legal set. -/
def Obligations.EveryStepKeepsTheRegisterInvariant : Prop :=
  (∀ (i : Instr) (s t : State), RegsInv Config.params s → exec i s = .next t → RegsInv Config.params t) ∧
  (∀ s t : State, RegsInv Config.params s → step s = .next t → RegsInv Config.params t) ∧
  (∀ (p : Config.Params) (i : Instr) (s t : State), p.legal = true → RegsInv p s →
    execFor p i s = .next t → RegsInv p t) ∧
  (∀ (p : Config.Params) (s t : State), p.legal = true → RegsInv p s → stepFor p s = .next t →
    RegsInv p t)

/-- The widths of R6: reset, every well-formed operation and every cycle leave each register, and the index of
each request, within its width, from every state in which they are. -/
def Obligations.EveryStepKeepsTheWidths : Prop :=
  (∀ (p : Config.Params) (inputs : List Inputs), FitsWidths p { State.reset with inputs := inputs }) ∧
  (∀ (p : Config.Params) (i : Instr) (s t : State), p.legal = true → i.wellFormed p = true →
    FitsWidths p s → execFor p i s = .next t → FitsWidths p t) ∧
  (∀ (p : Config.Params) (s t : State), p.legal = true → FitsWidths p s → stepFor p s = .next t →
    FitsWidths p t) ∧
  (∀ s t : State, FitsWidths Config.params s → step s = .next t → FitsWidths Config.params t)

/-- R22: what holds in every state reachable from the reset state under any schedule of inputs; (a) and (b)
hold by the types of `MODE` and `DIR`. -/
def Obligations.ReachableStatesMeetTheRegisterInvariant : Prop :=
  ∀ (p : Config.Params) (s : State), p.legal = true → Reachable p s → RegsInv p s

/-- R23: when the driven LED exists and was off at the driver start, `ON` equals its bit of `LED_OUT` after
every operation from then on. -/
def Obligations.OnAgreesWithTheLedItCaches : Prop :=
  (∀ (p : Config.Params) (i : Instr) (s t : State), s.mode = .idle →
    execFor p i s = .next t → t.mode ≠ .idle → s.ledOut.getLsbD t.ledsel = false → CacheAgrees t) ∧
  (∀ (p : Config.Params) (i : Instr) (s t : State), s.mode ≠ .idle → CacheAgrees s →
    execFor p i s = .next t → CacheAgrees t)

/-- R127: after any `STEP` of a running driver `FC <= PERIOD - 1`, and up to `2^FC_WIDTH - PERIOD` fast ticks
from there, 65036 with the defaults, do not overflow `FC`. -/
def Obligations.FcCannotOverflowWithinTheStepWindow : Prop :=
  (∀ (p : Config.Params) (s t : State), p.legal = true → RegsInv p s → s.mode ≠ .idle →
    execFor p .step s = .next t → t.fc ≤ p.period - 1) ∧
  (∀ (p : Config.Params) (n : Nat) (s : State), p.legal = true → n ≤ 2 ^ p.fcWidth - p.period →
    s.fc ≤ p.period - 1 →
    ∃ t, runOps (execFor p) (List.replicate n .fastTick) s = .next t ∧ t.fc = s.fc + n) ∧
  2 ^ Config.params.fcWidth - Config.params.period = 65036

/-- R129: after any `STEP` in mode PULSE `SC <= PULSE_RATE - 1`, and as many slow ticks from there as keep
`PULSE_RATE - 1` below `2^SC_WIDTH`, 13105 with the defaults, do not overflow `SC`. -/
def Obligations.ScCannotOverflowWithinTheStepWindow : Prop :=
  (∀ (p : Config.Params) (s t : State), p.legal = true → s.mode = .pulse →
    execFor p .step s = .next t → t.sc ≤ p.pulseRate - 1) ∧
  (∀ (p : Config.Params) (n : Nat) (s : State), p.legal = true →
    n ≤ (2 ^ p.scWidth - p.pulseRate) / p.slowInc → s.sc ≤ p.pulseRate - 1 →
    ∃ t, runOps (execFor p) (List.replicate n .slowTick) s = .next t ∧ t.sc = s.sc + p.slowInc * n) ∧
  (2 ^ Config.params.scWidth - Config.params.pulseRate) / Config.params.slowInc = 13105

/-- R11: in modes IDLE and GLOW nothing reads or clears `SC`: only a slow tick changes it, and blocks that
differ in it alone stay alike in everything else. -/
def Obligations.ScIsNeitherReadNorClearedOutsidePulse : Prop :=
  (∀ (p : Config.Params) (i : Instr) (s t : State), s.mode ≠ .pulse → i ≠ .slowTick →
    execFor p i s = .next t → t.sc = s.sc) ∧
  (∀ (p : Config.Params) (i : Instr) (s t : State) (v : Nat), s.mode ≠ .pulse →
    execFor p i s = .next t → ∃ w, execFor p i { s with sc := v } = .next { t with sc := w })
end

