-- ==== Sys2Proof/Laws/Words.lean ====
section
/-! SUPPORT. The default parameters, what a legal set gives a proof, and the representation of `DIR`
(spec/00_scope.md rules R5, R6, R7). -/

namespace Sys2Proof.Laws

/-- R7: the defaults are a legal set. -/
theorem params_legal : Config.params.legal = true := by decide

@[simp] theorem params_period : Config.params.period = 500 := rfl

@[simp] theorem params_pulseRate : Config.params.pulseRate = 10 := rfl

@[simp] theorem params_slowInc : Config.params.slowInc = 5 := rfl

@[simp] theorem params_fcWidth : Config.params.fcWidth = 16 := rfl

@[simp] theorem params_scWidth : Config.params.scWidth = 16 := rfl

@[simp] theorem params_thWidth : Config.params.thWidth = 9 := rfl

@[simp] theorem params_ledIdxWidth : Config.params.ledIdxWidth = 4 := rfl

/-- R6: `CMD_WIDTH` is 16 with the defaults. -/
@[simp] theorem params_cmdWidth : Config.params.cmdWidth = 16 := rfl

@[simp] theorem numLeds_eq : Config.numLeds = 4 := rfl

/-- R6, R18: `LED_OUT` has `NUM_LEDS` bits. -/
theorem ledPattern_width : LedPattern = BitVec Config.numLeds := rfl

/-- What a legal set gives a proof, as inequalities on numbers (R6, R7). -/
theorem legal_bounds {p : Config.Params} (h : p.legal = true) :
    1 ≤ p.period ∧ 1 ≤ p.pulseRate ∧ 1 ≤ p.slowInc ∧ p.period < 2 ^ p.fcWidth ∧
    p.pulseRate + p.slowInc < 2 ^ p.scWidth ∧ p.period < 2 ^ p.thWidth ∧ 2 ≤ p.dirWidth ∧
    4 < 2 ^ p.ledIdxWidth := by
  simp only [Config.Params.legal, Config.Params.periodPositive, Config.Params.pulseRatePositive,
    Config.Params.slowIncPositive, Config.Params.periodFitsFc, Config.Params.gateFitsSc,
    Config.Params.periodFitsTh, Config.Params.dirFits, Config.Params.ledIdxFits, Bool.and_eq_true,
    decide_eq_true_eq, and_assoc] at h
  exact h

/-- R6: in a legal set `arg` has at least one bit, the one `SETLED` reads. -/
theorem legal_thWidth_pos {p : Config.Params} (h : p.legal = true) : 1 ≤ p.thWidth := by
  have := (legal_bounds h).1
  have := (legal_bounds h).2.2.2.2.2.1
  rcases Nat.eq_zero_or_pos p.thWidth with h0 | h0
  · rw [h0] at this; omega
  · exact h0

/-- The three encodings of `DIR` with the default width: `0b00`, `0b01`, `0b11` (R14). -/
theorem dir_bits_default :
    (Machine.Dir.unset.bits Config.params).toNat = 0b00 ∧
    (Machine.Dir.up.bits Config.params).toNat = 0b01 ∧
    (Machine.Dir.down.bits Config.params).toNat = 0b11 := by decide

end Sys2Proof.Laws
end

