-- ==== Sys2Proof/Laws/Decode.lean ====
section
/-! SUPPORT. The fields of an assembled command word, the range of a decoded operand, and that decoding
looks at the `CMD_WIDTH` bits of a word only. -/

namespace Sys2Proof

theorem cmdArg_cmdWordOf (p : Config.Params) {op led arg : Nat} (h : arg < 2 ^ p.thWidth) :
    cmdArg p (cmdWordOf p op led arg) = arg := by
  rw [cmdArg, cmdWordOf, Nat.mul_comm, Nat.mul_add_mod, Nat.mod_eq_of_lt h]

/-- A word without its `arg` field. -/
theorem cmdWordOf_div (p : Config.Params) {op led arg : Nat} (h : arg < 2 ^ p.thWidth) :
    cmdWordOf p op led arg / 2 ^ p.thWidth = op * 2 ^ p.ledIdxWidth + led := by
  rw [cmdWordOf, Nat.mul_comm, Nat.mul_add_div (Nat.two_pow_pos _), Nat.div_eq_of_lt h, Nat.add_zero]

theorem cmdLed_cmdWordOf (p : Config.Params) {op led arg : Nat} (hl : led < 2 ^ p.ledIdxWidth)
    (h : arg < 2 ^ p.thWidth) : cmdLed p (cmdWordOf p op led arg) = led := by
  rw [cmdLed, cmdWordOf_div p h, Nat.mul_comm, Nat.mul_add_mod, Nat.mod_eq_of_lt hl]

/-- The bits above the `led` field. -/
theorem cmdOp_eq (p : Config.Params) (w : Nat) :
    cmdOp p w = w / 2 ^ p.thWidth / 2 ^ p.ledIdxWidth % 8 := by
  rw [cmdOp, Nat.pow_add, Nat.mul_comm, ← Nat.div_div_eq_div_mul]; rfl

theorem cmdOp_cmdWordOf (p : Config.Params) {op led arg : Nat} (ho : op < 8)
    (hl : led < 2 ^ p.ledIdxWidth) (h : arg < 2 ^ p.thWidth) :
    cmdOp p (cmdWordOf p op led arg) = op := by
  rw [cmdOp_eq, cmdWordOf_div p h, Nat.mul_comm, Nat.mul_add_div (Nat.two_pow_pos _),
    Nat.div_eq_of_lt hl, Nat.add_zero, Nat.mod_eq_of_lt ho]

/-- An assembled word has `CMD_WIDTH` bits. -/
theorem cmdWordOf_lt (p : Config.Params) {op led arg : Nat} (ho : op < 8)
    (hl : led < 2 ^ p.ledIdxWidth) (h : arg < 2 ^ p.thWidth) :
    cmdWordOf p op led arg < 2 ^ p.cmdWidth := by
  rw [Config.Params.cmdWidth, Nat.pow_add, ← Nat.div_lt_iff_lt_mul (Nat.two_pow_pos _), cmdWordOf_div p h,
    Nat.pow_add, ← Nat.div_lt_iff_lt_mul (Nat.two_pow_pos _), Nat.mul_comm op,
    Nat.mul_add_div (Nat.two_pow_pos _), Nat.div_eq_of_lt hl]
  exact ho

/-- The decoder by the number in the `op` field. -/
theorem decodeCmd_cases (p : Config.Params) (w : Nat) :
    (cmdOp p w = 0 ∧ decodeCmd p w = .nop) ∨
    (cmdOp p w = 1 ∧ decodeCmd p w = .glow (cmdLed p w) (cmdArg p w)) ∨
    (cmdOp p w = 2 ∧ decodeCmd p w = .pulse (cmdLed p w)) ∨
    (cmdOp p w = 3 ∧ decodeCmd p w = .setled (cmdLed p w) (cmdOn w)) ∨
    (4 ≤ cmdOp p w ∧ decodeCmd p w = .rsvd) := by
  rcases h : cmdOp p w with _ | _ | _ | _ | n <;> simp [decodeCmd, h]

/-- A command word decodes to a command. -/
theorem decodeCmd_isCommand (p : Config.Params) (w : Nat) : (decodeCmd p w).isCommand = true := by
  obtain ⟨-, e⟩ | ⟨-, e⟩ | ⟨-, e⟩ | ⟨-, e⟩ | ⟨-, e⟩ := decodeCmd_cases p w <;> rw [e] <;> rfl

/-- Every decoded operand fits its field, so nothing that is decoded is ill formed. -/
theorem decodeCmd_wellFormed (p : Config.Params) (w : Nat) :
    (decodeCmd p w).wellFormed p = true := by
  have hl : cmdLed p w < 2 ^ p.ledIdxWidth := Nat.mod_lt _ (Nat.two_pow_pos _)
  have ha : cmdArg p w < 2 ^ p.thWidth := Nat.mod_lt _ (Nat.two_pow_pos _)
  obtain ⟨-, e⟩ | ⟨-, e⟩ | ⟨-, e⟩ | ⟨-, e⟩ | ⟨-, e⟩ := decodeCmd_cases p w <;> rw [e] <;>
    simp [Instr.wellFormed, ledFits, thresholdFits, hl, ha]

end Sys2Proof
end

