-- ==== Sys2Proof/Laws/State.lean ====
section
/-! SUPPORT. What every register write and `emit` leaves in each field of the state: one lemma per field per
update. -/

namespace Sys2Proof.Machine

@[simp] theorem setFc_fc (s : State) (v : Nat) : (s.setFc v).fc = v := rfl
@[simp] theorem setFc_sc (s : State) (v : Nat) : (s.setFc v).sc = s.sc := rfl
@[simp] theorem setFc_gth (s : State) (v : Nat) : (s.setFc v).gth = s.gth := rfl
@[simp] theorem setFc_ramp (s : State) (v : Nat) : (s.setFc v).ramp = s.ramp := rfl
@[simp] theorem setFc_dir (s : State) (v : Nat) : (s.setFc v).dir = s.dir := rfl
@[simp] theorem setFc_onState (s : State) (v : Nat) : (s.setFc v).onState = s.onState := rfl
@[simp] theorem setFc_ledsel (s : State) (v : Nat) : (s.setFc v).ledsel = s.ledsel := rfl
@[simp] theorem setFc_mode (s : State) (v : Nat) : (s.setFc v).mode = s.mode := rfl
@[simp] theorem setFc_ledOut (s : State) (v : Nat) : (s.setFc v).ledOut = s.ledOut := rfl
@[simp] theorem setFc_inputs (s : State) (v : Nat) : (s.setFc v).inputs = s.inputs := rfl
@[simp] theorem setFc_cycleReqs (s : State) (v : Nat) : (s.setFc v).cycleReqs = s.cycleReqs := rfl
@[simp] theorem setFc_pastReqs (s : State) (v : Nat) : (s.setFc v).pastReqs = s.pastReqs := rfl
@[simp] theorem setFc_cycle (s : State) (v : Nat) : (s.setFc v).cycle = s.cycle := rfl

@[simp] theorem setSc_fc (s : State) (v : Nat) : (s.setSc v).fc = s.fc := rfl
@[simp] theorem setSc_sc (s : State) (v : Nat) : (s.setSc v).sc = v := rfl
@[simp] theorem setSc_gth (s : State) (v : Nat) : (s.setSc v).gth = s.gth := rfl
@[simp] theorem setSc_ramp (s : State) (v : Nat) : (s.setSc v).ramp = s.ramp := rfl
@[simp] theorem setSc_dir (s : State) (v : Nat) : (s.setSc v).dir = s.dir := rfl
@[simp] theorem setSc_onState (s : State) (v : Nat) : (s.setSc v).onState = s.onState := rfl
@[simp] theorem setSc_ledsel (s : State) (v : Nat) : (s.setSc v).ledsel = s.ledsel := rfl
@[simp] theorem setSc_mode (s : State) (v : Nat) : (s.setSc v).mode = s.mode := rfl
@[simp] theorem setSc_ledOut (s : State) (v : Nat) : (s.setSc v).ledOut = s.ledOut := rfl
@[simp] theorem setSc_inputs (s : State) (v : Nat) : (s.setSc v).inputs = s.inputs := rfl
@[simp] theorem setSc_cycleReqs (s : State) (v : Nat) : (s.setSc v).cycleReqs = s.cycleReqs := rfl
@[simp] theorem setSc_pastReqs (s : State) (v : Nat) : (s.setSc v).pastReqs = s.pastReqs := rfl
@[simp] theorem setSc_cycle (s : State) (v : Nat) : (s.setSc v).cycle = s.cycle := rfl

@[simp] theorem setGth_fc (s : State) (v : Nat) : (s.setGth v).fc = s.fc := rfl
@[simp] theorem setGth_sc (s : State) (v : Nat) : (s.setGth v).sc = s.sc := rfl
@[simp] theorem setGth_gth (s : State) (v : Nat) : (s.setGth v).gth = v := rfl
@[simp] theorem setGth_ramp (s : State) (v : Nat) : (s.setGth v).ramp = s.ramp := rfl
@[simp] theorem setGth_dir (s : State) (v : Nat) : (s.setGth v).dir = s.dir := rfl
@[simp] theorem setGth_onState (s : State) (v : Nat) : (s.setGth v).onState = s.onState := rfl
@[simp] theorem setGth_ledsel (s : State) (v : Nat) : (s.setGth v).ledsel = s.ledsel := rfl
@[simp] theorem setGth_mode (s : State) (v : Nat) : (s.setGth v).mode = s.mode := rfl
@[simp] theorem setGth_ledOut (s : State) (v : Nat) : (s.setGth v).ledOut = s.ledOut := rfl
@[simp] theorem setGth_inputs (s : State) (v : Nat) : (s.setGth v).inputs = s.inputs := rfl
@[simp] theorem setGth_cycleReqs (s : State) (v : Nat) : (s.setGth v).cycleReqs = s.cycleReqs := rfl
@[simp] theorem setGth_pastReqs (s : State) (v : Nat) : (s.setGth v).pastReqs = s.pastReqs := rfl
@[simp] theorem setGth_cycle (s : State) (v : Nat) : (s.setGth v).cycle = s.cycle := rfl

@[simp] theorem setRamp_fc (s : State) (v : Nat) : (s.setRamp v).fc = s.fc := rfl
@[simp] theorem setRamp_sc (s : State) (v : Nat) : (s.setRamp v).sc = s.sc := rfl
@[simp] theorem setRamp_gth (s : State) (v : Nat) : (s.setRamp v).gth = s.gth := rfl
@[simp] theorem setRamp_ramp (s : State) (v : Nat) : (s.setRamp v).ramp = v := rfl
@[simp] theorem setRamp_dir (s : State) (v : Nat) : (s.setRamp v).dir = s.dir := rfl
@[simp] theorem setRamp_onState (s : State) (v : Nat) : (s.setRamp v).onState = s.onState := rfl
@[simp] theorem setRamp_ledsel (s : State) (v : Nat) : (s.setRamp v).ledsel = s.ledsel := rfl
@[simp] theorem setRamp_mode (s : State) (v : Nat) : (s.setRamp v).mode = s.mode := rfl
@[simp] theorem setRamp_ledOut (s : State) (v : Nat) : (s.setRamp v).ledOut = s.ledOut := rfl
@[simp] theorem setRamp_inputs (s : State) (v : Nat) : (s.setRamp v).inputs = s.inputs := rfl
@[simp] theorem setRamp_cycleReqs (s : State) (v : Nat) : (s.setRamp v).cycleReqs = s.cycleReqs := rfl
@[simp] theorem setRamp_pastReqs (s : State) (v : Nat) : (s.setRamp v).pastReqs = s.pastReqs := rfl
@[simp] theorem setRamp_cycle (s : State) (v : Nat) : (s.setRamp v).cycle = s.cycle := rfl

@[simp] theorem setDir_fc (s : State) (v : Dir) : (s.setDir v).fc = s.fc := rfl
@[simp] theorem setDir_sc (s : State) (v : Dir) : (s.setDir v).sc = s.sc := rfl
@[simp] theorem setDir_gth (s : State) (v : Dir) : (s.setDir v).gth = s.gth := rfl
@[simp] theorem setDir_ramp (s : State) (v : Dir) : (s.setDir v).ramp = s.ramp := rfl
@[simp] theorem setDir_dir (s : State) (v : Dir) : (s.setDir v).dir = v := rfl
@[simp] theorem setDir_onState (s : State) (v : Dir) : (s.setDir v).onState = s.onState := rfl
@[simp] theorem setDir_ledsel (s : State) (v : Dir) : (s.setDir v).ledsel = s.ledsel := rfl
@[simp] theorem setDir_mode (s : State) (v : Dir) : (s.setDir v).mode = s.mode := rfl
@[simp] theorem setDir_ledOut (s : State) (v : Dir) : (s.setDir v).ledOut = s.ledOut := rfl
@[simp] theorem setDir_inputs (s : State) (v : Dir) : (s.setDir v).inputs = s.inputs := rfl
@[simp] theorem setDir_cycleReqs (s : State) (v : Dir) : (s.setDir v).cycleReqs = s.cycleReqs := rfl
@[simp] theorem setDir_pastReqs (s : State) (v : Dir) : (s.setDir v).pastReqs = s.pastReqs := rfl
@[simp] theorem setDir_cycle (s : State) (v : Dir) : (s.setDir v).cycle = s.cycle := rfl

@[simp] theorem setOn_fc (s : State) (v : Bool) : (s.setOn v).fc = s.fc := rfl
@[simp] theorem setOn_sc (s : State) (v : Bool) : (s.setOn v).sc = s.sc := rfl
@[simp] theorem setOn_gth (s : State) (v : Bool) : (s.setOn v).gth = s.gth := rfl
@[simp] theorem setOn_ramp (s : State) (v : Bool) : (s.setOn v).ramp = s.ramp := rfl
@[simp] theorem setOn_dir (s : State) (v : Bool) : (s.setOn v).dir = s.dir := rfl
@[simp] theorem setOn_onState (s : State) (v : Bool) : (s.setOn v).onState = v := rfl
@[simp] theorem setOn_ledsel (s : State) (v : Bool) : (s.setOn v).ledsel = s.ledsel := rfl
@[simp] theorem setOn_mode (s : State) (v : Bool) : (s.setOn v).mode = s.mode := rfl
@[simp] theorem setOn_ledOut (s : State) (v : Bool) : (s.setOn v).ledOut = s.ledOut := rfl
@[simp] theorem setOn_inputs (s : State) (v : Bool) : (s.setOn v).inputs = s.inputs := rfl
@[simp] theorem setOn_cycleReqs (s : State) (v : Bool) : (s.setOn v).cycleReqs = s.cycleReqs := rfl
@[simp] theorem setOn_pastReqs (s : State) (v : Bool) : (s.setOn v).pastReqs = s.pastReqs := rfl
@[simp] theorem setOn_cycle (s : State) (v : Bool) : (s.setOn v).cycle = s.cycle := rfl

@[simp] theorem setLedsel_fc (s : State) (v : Nat) : (s.setLedsel v).fc = s.fc := rfl
@[simp] theorem setLedsel_sc (s : State) (v : Nat) : (s.setLedsel v).sc = s.sc := rfl
@[simp] theorem setLedsel_gth (s : State) (v : Nat) : (s.setLedsel v).gth = s.gth := rfl
@[simp] theorem setLedsel_ramp (s : State) (v : Nat) : (s.setLedsel v).ramp = s.ramp := rfl
@[simp] theorem setLedsel_dir (s : State) (v : Nat) : (s.setLedsel v).dir = s.dir := rfl
@[simp] theorem setLedsel_onState (s : State) (v : Nat) : (s.setLedsel v).onState = s.onState := rfl
@[simp] theorem setLedsel_ledsel (s : State) (v : Nat) : (s.setLedsel v).ledsel = v := rfl
@[simp] theorem setLedsel_mode (s : State) (v : Nat) : (s.setLedsel v).mode = s.mode := rfl
@[simp] theorem setLedsel_ledOut (s : State) (v : Nat) : (s.setLedsel v).ledOut = s.ledOut := rfl
@[simp] theorem setLedsel_inputs (s : State) (v : Nat) : (s.setLedsel v).inputs = s.inputs := rfl
@[simp] theorem setLedsel_cycleReqs (s : State) (v : Nat) : (s.setLedsel v).cycleReqs = s.cycleReqs := rfl
@[simp] theorem setLedsel_pastReqs (s : State) (v : Nat) : (s.setLedsel v).pastReqs = s.pastReqs := rfl
@[simp] theorem setLedsel_cycle (s : State) (v : Nat) : (s.setLedsel v).cycle = s.cycle := rfl

@[simp] theorem setMode_fc (s : State) (v : Mode) : (s.setMode v).fc = s.fc := rfl
@[simp] theorem setMode_sc (s : State) (v : Mode) : (s.setMode v).sc = s.sc := rfl
@[simp] theorem setMode_gth (s : State) (v : Mode) : (s.setMode v).gth = s.gth := rfl
@[simp] theorem setMode_ramp (s : State) (v : Mode) : (s.setMode v).ramp = s.ramp := rfl
@[simp] theorem setMode_dir (s : State) (v : Mode) : (s.setMode v).dir = s.dir := rfl
@[simp] theorem setMode_onState (s : State) (v : Mode) : (s.setMode v).onState = s.onState := rfl
@[simp] theorem setMode_ledsel (s : State) (v : Mode) : (s.setMode v).ledsel = s.ledsel := rfl
@[simp] theorem setMode_mode (s : State) (v : Mode) : (s.setMode v).mode = v := rfl
@[simp] theorem setMode_ledOut (s : State) (v : Mode) : (s.setMode v).ledOut = s.ledOut := rfl
@[simp] theorem setMode_inputs (s : State) (v : Mode) : (s.setMode v).inputs = s.inputs := rfl
@[simp] theorem setMode_cycleReqs (s : State) (v : Mode) : (s.setMode v).cycleReqs = s.cycleReqs := rfl
@[simp] theorem setMode_pastReqs (s : State) (v : Mode) : (s.setMode v).pastReqs = s.pastReqs := rfl
@[simp] theorem setMode_cycle (s : State) (v : Mode) : (s.setMode v).cycle = s.cycle := rfl

@[simp] theorem setLedOut_fc (s : State) (v : LedPattern) : (s.setLedOut v).fc = s.fc := rfl
@[simp] theorem setLedOut_sc (s : State) (v : LedPattern) : (s.setLedOut v).sc = s.sc := rfl
@[simp] theorem setLedOut_gth (s : State) (v : LedPattern) : (s.setLedOut v).gth = s.gth := rfl
@[simp] theorem setLedOut_ramp (s : State) (v : LedPattern) : (s.setLedOut v).ramp = s.ramp := rfl
@[simp] theorem setLedOut_dir (s : State) (v : LedPattern) : (s.setLedOut v).dir = s.dir := rfl
@[simp] theorem setLedOut_onState (s : State) (v : LedPattern) : (s.setLedOut v).onState = s.onState := rfl
@[simp] theorem setLedOut_ledsel (s : State) (v : LedPattern) : (s.setLedOut v).ledsel = s.ledsel := rfl
@[simp] theorem setLedOut_mode (s : State) (v : LedPattern) : (s.setLedOut v).mode = s.mode := rfl
@[simp] theorem setLedOut_ledOut (s : State) (v : LedPattern) : (s.setLedOut v).ledOut = v := rfl
@[simp] theorem setLedOut_inputs (s : State) (v : LedPattern) : (s.setLedOut v).inputs = s.inputs := rfl
@[simp] theorem setLedOut_cycleReqs (s : State) (v : LedPattern) : (s.setLedOut v).cycleReqs = s.cycleReqs := rfl
@[simp] theorem setLedOut_pastReqs (s : State) (v : LedPattern) : (s.setLedOut v).pastReqs = s.pastReqs := rfl
@[simp] theorem setLedOut_cycle (s : State) (v : LedPattern) : (s.setLedOut v).cycle = s.cycle := rfl

@[simp] theorem emit_fc (s : State) (r : LedReq) : (s.emit r).fc = s.fc := rfl
@[simp] theorem emit_sc (s : State) (r : LedReq) : (s.emit r).sc = s.sc := rfl
@[simp] theorem emit_gth (s : State) (r : LedReq) : (s.emit r).gth = s.gth := rfl
@[simp] theorem emit_ramp (s : State) (r : LedReq) : (s.emit r).ramp = s.ramp := rfl
@[simp] theorem emit_dir (s : State) (r : LedReq) : (s.emit r).dir = s.dir := rfl
@[simp] theorem emit_onState (s : State) (r : LedReq) : (s.emit r).onState = s.onState := rfl
@[simp] theorem emit_ledsel (s : State) (r : LedReq) : (s.emit r).ledsel = s.ledsel := rfl
@[simp] theorem emit_mode (s : State) (r : LedReq) : (s.emit r).mode = s.mode := rfl
@[simp] theorem emit_ledOut (s : State) (r : LedReq) : (s.emit r).ledOut = s.ledOut := rfl
@[simp] theorem emit_inputs (s : State) (r : LedReq) : (s.emit r).inputs = s.inputs := rfl
@[simp] theorem emit_cycleReqs (s : State) (r : LedReq) : (s.emit r).cycleReqs = s.cycleReqs ++ [r] := rfl
@[simp] theorem emit_pastReqs (s : State) (r : LedReq) : (s.emit r).pastReqs = s.pastReqs := rfl
@[simp] theorem emit_cycle (s : State) (r : LedReq) : (s.emit r).cycle = s.cycle := rfl

@[simp] theorem resetRegs_fc (s : State) : (resetRegs s).fc = 0 := rfl
@[simp] theorem resetRegs_sc (s : State) : (resetRegs s).sc = 0 := rfl
@[simp] theorem resetRegs_gth (s : State) : (resetRegs s).gth = 0 := rfl
@[simp] theorem resetRegs_ramp (s : State) : (resetRegs s).ramp = 0 := rfl
@[simp] theorem resetRegs_dir (s : State) : (resetRegs s).dir = .unset := rfl
@[simp] theorem resetRegs_onState (s : State) : (resetRegs s).onState = false := rfl
@[simp] theorem resetRegs_ledsel (s : State) : (resetRegs s).ledsel = 0 := rfl
@[simp] theorem resetRegs_mode (s : State) : (resetRegs s).mode = .idle := rfl
@[simp] theorem resetRegs_ledOut (s : State) : (resetRegs s).ledOut = 0 := rfl
@[simp] theorem resetRegs_inputs (s : State) : (resetRegs s).inputs = s.inputs := rfl
@[simp] theorem resetRegs_cycleReqs (s : State) : (resetRegs s).cycleReqs = s.cycleReqs := rfl
@[simp] theorem resetRegs_pastReqs (s : State) : (resetRegs s).pastReqs = s.pastReqs := rfl
@[simp] theorem resetRegs_cycle (s : State) : (resetRegs s).cycle = s.cycle := rfl

@[simp] theorem beginCycle_fc (s : State) : (beginCycle s).fc = s.fc := rfl
@[simp] theorem beginCycle_sc (s : State) : (beginCycle s).sc = s.sc := rfl
@[simp] theorem beginCycle_gth (s : State) : (beginCycle s).gth = s.gth := rfl
@[simp] theorem beginCycle_ramp (s : State) : (beginCycle s).ramp = s.ramp := rfl
@[simp] theorem beginCycle_dir (s : State) : (beginCycle s).dir = s.dir := rfl
@[simp] theorem beginCycle_onState (s : State) : (beginCycle s).onState = s.onState := rfl
@[simp] theorem beginCycle_ledsel (s : State) : (beginCycle s).ledsel = s.ledsel := rfl
@[simp] theorem beginCycle_mode (s : State) : (beginCycle s).mode = s.mode := rfl
@[simp] theorem beginCycle_ledOut (s : State) : (beginCycle s).ledOut = s.ledOut := rfl
@[simp] theorem beginCycle_inputs (s : State) : (beginCycle s).inputs = s.inputs.tail := rfl
@[simp] theorem beginCycle_cycleReqs (s : State) : (beginCycle s).cycleReqs = [] := rfl
@[simp] theorem beginCycle_pastReqs (s : State) : (beginCycle s).pastReqs = s.pastReqs ++ s.cycleReqs := rfl
@[simp] theorem beginCycle_cycle (s : State) : (beginCycle s).cycle = s.cycle + 1 := rfl

end Sys2Proof.Machine
end

