-- ==== Sys2Proof/Laws/Ops.lean ====
section
/-! SUPPORT. What each shared operation can do, said once: the LED write, `SETLED_OP`, `APPLY`, the direction
choice, the ramp's addition, the gate, and the driver starts. -/

namespace Sys2Proof.Machine

/-- A bit of the pattern after an LED write. -/
theorem writeLed_getLsbD (v : LedPattern) (idx : Nat) (lit : Bool) {i : Nat} (hi : i < 4) :
    (writeLed v idx lit).getLsbD i = if idx = i then lit else v.getLsbD i := by
  unfold writeLed
  by_cases h : idx < Config.numLeds
  · have hbit : (1#4 <<< idx).getLsbD i = decide (idx = i) := by
      rw [BitVec.getLsbD_shiftLeft, BitVec.getLsbD_one]
      have e : (decide (i < 4) && (!decide (i < idx) && (decide (0 < 4) && decide (i - idx = 0)))) =
          decide (idx = i) := by
        rw [← Bool.coe_iff_coe]; simp; omega
      simpa [hi] using e
    rw [if_pos h]
    cases lit
    · rw [if_neg (by simp), BitVec.getLsbD_and, BitVec.getLsbD_not, hbit]
      by_cases h2 : idx = i <;> simp [h2, hi]
    · rw [if_pos rfl, BitVec.getLsbD_or, hbit]
      by_cases h2 : idx = i <;> simp [h2]
  · have : idx ≠ i := by simp at h; omega
    rw [if_neg h, if_neg this]

/-- An index that names no LED writes nothing. -/
theorem writeLed_no_led (v : LedPattern) {idx : Nat} (lit : Bool) (h : 4 ≤ idx) :
    writeLed v idx lit = v := by
  unfold writeLed
  rw [if_neg (by simp; omega)]

@[simp] theorem writeLeds_nil (v : LedPattern) : writeLeds v [] = v := rfl

@[simp] theorem writeLeds_append (v : LedPattern) (rs qs : List LedReq) :
    writeLeds v (rs ++ qs) = writeLeds (writeLeds v rs) qs := by
  simp [writeLeds]

@[simp] theorem writeLeds_single (v : LedPattern) (r : LedReq) :
    writeLeds v [r] = writeLed v r.idx r.lit := rfl

/-- Everything `SETLED_OP` does. -/
theorem setledOp_eq (idx : Nat) (lit : Bool) (s : State) :
    setledOp idx lit s =
      { s with cycleReqs := s.cycleReqs ++ [⟨idx, lit⟩], ledOut := writeLed s.ledOut idx lit } := rfl

/-- Everything `APPLY` can do: nothing, switch on, switch off, or wrap. -/
theorem applyOp_cases (p : Config.Params) (idx : Nat) (t : Nat) (s : State) :
    (s.fc < t ∧ s.onState = true ∧ applyOp p idx t s = s) ∨
    (s.fc < t ∧ s.onState = false ∧ applyOp p idx t s = setledOp idx true (s.setOn true)) ∨
    (t ≤ s.fc ∧ s.fc < p.period ∧ s.onState = false ∧ applyOp p idx t s = s) ∨
    (t ≤ s.fc ∧ s.fc < p.period ∧ s.onState = true ∧
      applyOp p idx t s = setledOp idx false (s.setOn false)) ∨
    (t ≤ s.fc ∧ p.period ≤ s.fc ∧ applyOp p idx t s = s.setFc 0) := by
  unfold applyOp belowThreshold belowPeriod
  by_cases h1 : s.fc < t <;> by_cases h2 : s.fc < p.period <;> cases h3 : s.onState <;>
    simp [h1, h2] <;> omega

/-- What `APPLY` never touches. -/
theorem applyOp_frame (p : Config.Params) (idx : Nat) (t : Nat) (s : State) :
    applyOp p idx t s =
      { s with fc := (applyOp p idx t s).fc, onState := (applyOp p idx t s).onState,
               ledOut := (applyOp p idx t s).ledOut, cycleReqs := (applyOp p idx t s).cycleReqs } := by
  obtain ⟨-, -, h⟩ | ⟨-, -, h⟩ | ⟨-, -, -, h⟩ | ⟨-, -, -, h⟩ | ⟨-, -, h⟩ := applyOp_cases p idx t s <;>
    rw [h] <;> rfl

@[simp] theorem applyOp_sc (p : Config.Params) (idx : Nat) (t : Nat) (s : State) :
    (applyOp p idx t s).sc = s.sc := by rw [applyOp_frame]

@[simp] theorem applyOp_gth (p : Config.Params) (idx : Nat) (t : Nat) (s : State) :
    (applyOp p idx t s).gth = s.gth := by rw [applyOp_frame]

@[simp] theorem applyOp_ramp (p : Config.Params) (idx : Nat) (t : Nat) (s : State) :
    (applyOp p idx t s).ramp = s.ramp := by rw [applyOp_frame]

@[simp] theorem applyOp_dir (p : Config.Params) (idx : Nat) (t : Nat) (s : State) :
    (applyOp p idx t s).dir = s.dir := by rw [applyOp_frame]

@[simp] theorem applyOp_ledsel (p : Config.Params) (idx : Nat) (t : Nat) (s : State) :
    (applyOp p idx t s).ledsel = s.ledsel := by rw [applyOp_frame]

@[simp] theorem applyOp_mode (p : Config.Params) (idx : Nat) (t : Nat) (s : State) :
    (applyOp p idx t s).mode = s.mode := by rw [applyOp_frame]

@[simp] theorem applyOp_inputs (p : Config.Params) (idx : Nat) (t : Nat) (s : State) :
    (applyOp p idx t s).inputs = s.inputs := by rw [applyOp_frame]

@[simp] theorem applyOp_pastReqs (p : Config.Params) (idx : Nat) (t : Nat) (s : State) :
    (applyOp p idx t s).pastReqs = s.pastReqs := by rw [applyOp_frame]

@[simp] theorem applyOp_cycle (p : Config.Params) (idx : Nat) (t : Nat) (s : State) :
    (applyOp p idx t s).cycle = s.cycle := by rw [applyOp_frame]

/-- The direction choice by its two tests. -/
theorem chooseDir_eq (p : Config.Params) (d : Dir) (ramp : Nat) :
    chooseDir p d ramp =
      if d = .up then (if ramp < p.period then .up else .down)
      else (if 0 < ramp then .down else .up) := by
  cases d <;> simp [chooseDir, dirPositive, Dir.value, rampBelowPeriod, rampAboveZero]

/-- The chosen direction is never 0. -/
theorem chooseDir_ne_unset (p : Config.Params) (d : Dir) (ramp : Nat) :
    chooseDir p d ramp ≠ .unset := by
  rw [chooseDir_eq]; repeat' split
  all_goals simp

/-- A step up, exactly: `RAMP + 1` modulo the width. -/
@[simp] theorem rampPlusDir_up (p : Config.Params) (ramp : Nat) :
    rampPlusDir p ramp .up = (ramp + 1) % 2 ^ p.thWidth := by
  have h : (ramp : Int) + Dir.up.value = ((ramp + 1 : Nat) : Int) := by simp [Dir.value]
  rw [rampPlusDir, h, ← Int.natCast_emod, Int.toNat_natCast]

/-- A step down from a value above 0: `RAMP - 1` modulo the width. -/
theorem rampPlusDir_down (p : Config.Params) {ramp : Nat} (h : 0 < ramp) :
    rampPlusDir p ramp .down = (ramp - 1) % 2 ^ p.thWidth := by
  have h : (ramp : Int) + Dir.down.value = ((ramp - 1 : Nat) : Int) := by simp only [Dir.value]; omega
  rw [rampPlusDir, h, ← Int.natCast_emod, Int.toNat_natCast]

/-- The addition always fits the width. -/
theorem rampPlusDir_lt (p : Config.Params) (ramp : Nat) (d : Dir) :
    rampPlusDir p ramp d < 2 ^ p.thWidth := by
  have h : 0 < 2 ^ p.thWidth := Nat.two_pow_pos _
  have h1 := Int.emod_lt_of_pos ((ramp : Int) + d.value)
    (show (0 : Int) < ((2 ^ p.thWidth : Nat) : Int) by exact_mod_cast h)
  unfold rampPlusDir; omega

/-- Everything steps 3 and 4 of one iteration do. -/
theorem passGate_eq (p : Config.Params) (s : State) :
    passGate p s =
      { s with dir := chooseDir p s.dir s.ramp, ramp := rampPlusDir p s.ramp (chooseDir p s.dir s.ramp),
               sc := 0 } := rfl

/-- One iteration of the pulse ramp is `APPLY`, and steps 3 and 4 exactly when the gate passes. -/
theorem pulseIter_cases (p : Config.Params) (s : State) :
    (s.sc < p.pulseRate ∧ pulseIter p s = applyOp p s.ledsel s.ramp s) ∨
    (p.pulseRate ≤ s.sc ∧ pulseIter p s = passGate p (applyOp p s.ledsel s.ramp s)) := by
  unfold pulseIter gateOpen
  by_cases h : p.pulseRate ≤ s.sc
  · right; simp [h, State.rampThreshold]
  · left; simp [h, State.rampThreshold]; omega

/-- A `GLOW` is accepted and writes four registers, or it does nothing. -/
theorem glowStart_cases (p : Config.Params) (led : Nat) (t : Nat) (s : State) :
    (s.mode = .idle ∧ t ≤ p.period ∧
      glowStart p led t s = { s with gth := t, ledsel := led, onState := false, mode := .glow }) ∨
    ((s.mode ≠ .idle ∨ p.period < t) ∧ glowStart p led t s = s) := by
  unfold glowStart State.isIdle thresholdInRange
  by_cases h1 : s.mode = .idle <;> by_cases h2 : t ≤ p.period
  · left; simp [h1, h2]; rfl
  · right; simp [h2]; omega
  · right; simp [h1]
  · right; simp [h1]

/-- A `PULSE` is accepted and writes five registers, or it does nothing. -/
theorem pulseStart_cases (led : Nat) (s : State) :
    (s.mode = .idle ∧
      pulseStart led s =
        { s with ramp := 0, dir := .unset, onState := false, ledsel := led, mode := .pulse }) ∨
    (s.mode ≠ .idle ∧ pulseStart led s = s) := by
  unfold pulseStart State.isIdle
  by_cases h1 : s.mode = .idle
  · left; simp [h1]; rfl
  · right; simp [h1]

/-- A `SETLED` calls the LED Output in mode IDLE and does nothing otherwise. -/
theorem setledCommand_cases (led : Nat) (lit : Bool) (s : State) :
    (s.mode = .idle ∧ setledCommand led lit s = setledOp led lit s) ∨
    (s.mode ≠ .idle ∧ setledCommand led lit s = s) := by
  unfold setledCommand State.isIdle
  by_cases h1 : s.mode = .idle
  · left; simp [h1]
  · right; simp [h1]

end Sys2Proof.Machine
end

