-- ==== Sys2Proof/Laws/PerInstr.lean ====
section
/-! SUPPORT. One statement per constructor of `Instr`: the word the encoder writes for it with the default
widths, which are the table's, is a word of its row of spec/opcode_table.json, and of no other row. -/

namespace Sys2Proof.Laws.TableRow

/-- The row of spec/opcode_table.json an instruction stands for. -/
def rowOf : Instr → Nat
  | .fastTick => 0
  | .slowTick => 1
  | .step => 2
  | .nop => 3
  | .glow _ _ => 4
  | .pulse _ => 5
  | .setled _ _ => 6
  | .rsvd => 7

/-- The rows that accept a well-formed instruction's encoding are its own row, and no other. -/
def Statement (i : Instr) : Prop :=
  i.wellFormed Config.params = true →
    opcodeTable.map (fun r => r.accepts (encode Config.params i)) =
      (List.range 8).map (fun k => k == rowOf i)

/-- The rows of format CMD tell a word by its `op` field alone. -/
theorem accepts_cmd (op led arg : Nat) (hl : led < 16) (ha : arg < 512) :
    opcodeTable.map (fun r => r.accepts (.cmd (cmdWordOf Config.params op led arg))) =
      opcodeTable.map (fun r => r.accepts (.cmd (op * 8192))) := by
  have hw : cmdWordOf Config.params op led arg / 2 ^ 13 = op * 8192 / 2 ^ 13 := by
    simp only [cmdWordOf, params_ledIdxWidth, params_thWidth]; omega
  have hm : ∀ m : BitVec 16, m = 0xE000 ∨ m = 0x8000 →
      BitVec.ofNat 16 (cmdWordOf Config.params op led arg) &&& m = BitVec.ofNat 16 (op * 8192) &&& m := by
    intro m hm
    apply BitVec.eq_of_getLsbD_eq
    intro i hi
    rw [BitVec.getLsbD_and, BitVec.getLsbD_and, BitVec.getLsbD_ofNat, BitVec.getLsbD_ofNat]
    by_cases h : i < 13
    · have : m.getLsbD i = false := by
        rcases hm with rfl | rfl <;> interval_cases i <;> rfl
      simp [this]
    · have e : ∀ w : Nat, w.testBit i = (w / 2 ^ 13).testBit (i - 13) := fun w => by
        rw [← Nat.shiftRight_eq_div_pow, Nat.testBit_shiftRight]; congr 1; omega
      rw [e, e, hw]
  simp only [opcodeTable, List.map, TableRow.accepts, Code.bits, Code.isCmd, hm 0xE000 (.inl rfl),
    hm 0x8000 (.inr rfl), Bool.false_beq, Bool.not_true, Bool.false_and]

theorem fastTick : Statement .fastTick := by unfold Statement; decide

theorem slowTick : Statement .slowTick := by unfold Statement; decide

theorem step : Statement .step := by unfold Statement; decide

theorem nop : Statement .nop := by unfold Statement; decide

theorem glow (led t : Nat) : Statement (.glow led t) := by
  intro h
  have hw : led < 2 ^ Config.params.ledIdxWidth ∧ t < 2 ^ Config.params.thWidth := by
    simpa only [Instr.wellFormed, ledFits, thresholdFits, Bool.and_eq_true, decide_eq_true_eq] using h
  refine (accepts_cmd 1 led t hw.1 hw.2).trans ?_
  simp only [rowOf]; decide

theorem pulse (led : Nat) : Statement (.pulse led) := by
  intro h
  have h1 : led < 2 ^ Config.params.ledIdxWidth := by
    simpa only [Instr.wellFormed, ledFits, decide_eq_true_eq] using h
  refine (accepts_cmd 2 led 0 h1 (by decide)).trans ?_
  simp only [rowOf]; decide

theorem setled (led : Nat) (lit : Bool) : Statement (.setled led lit) := by
  intro h
  have h1 : led < 2 ^ Config.params.ledIdxWidth := by
    simpa only [Instr.wellFormed, ledFits, decide_eq_true_eq] using h
  refine (accepts_cmd 3 led _ h1 (by cases lit <;> decide)).trans ?_
  simp only [rowOf]; decide

theorem rsvd : Statement .rsvd := by unfold Statement; decide

end Sys2Proof.Laws.TableRow
end

