-- ==== Sys2Proof/Laws/Step.lean ====
section
/-! SUPPORT. `execFor` arm by arm, for every parameter set, and `exec` as its instance at the defaults; what
`STEP` can do; and how a cycle is put together from its operations. -/

namespace Sys2Proof.Machine

@[simp] theorem execFor_fastTick (p : Config.Params) (s : State) :
    execFor p .fastTick s = .next (fastTickOp p s) := rfl

@[simp] theorem execFor_slowTick (p : Config.Params) (s : State) :
    execFor p .slowTick s = .next (slowTickOp p s) := rfl

@[simp] theorem execFor_step (p : Config.Params) (s : State) :
    execFor p .step s = .next (stepOp p s) := rfl

@[simp] theorem execFor_nop (p : Config.Params) (s : State) : execFor p .nop s = .next s := rfl

@[simp] theorem execFor_rsvd (p : Config.Params) (s : State) : execFor p .rsvd s = .next s := rfl

@[simp] theorem execFor_glow (p : Config.Params) (led t : Nat) (s : State) :
    execFor p (.glow led t) s = .next (glowStart p led t s) := rfl

@[simp] theorem execFor_pulse (p : Config.Params) (led : Nat) (s : State) :
    execFor p (.pulse led) s = .next (pulseStart led s) := rfl

@[simp] theorem execFor_setled (p : Config.Params) (led : Nat) (lit : Bool) (s : State) :
    execFor p (.setled led lit) s = .next (setledCommand led lit s) := rfl

/-- The operations under the host's name are those of the default parameters. -/
theorem exec_eq (i : Instr) (s : State) : exec i s = execFor Config.params i s := by
  cases i <;> rfl

/-- The same as an equation of functions, to rewrite below `runOps`. -/
theorem exec_eq_execFor : exec = execFor Config.params := funext fun i => funext (exec_eq i)

/-- The step under the host's name is that of the default parameters. -/
theorem step_eq (s : State) : step s = stepFor Config.params s := by
  rw [step, stepFor, exec_eq_execFor]

/-- `STEP` is nothing in mode IDLE, `APPLY` with `GTH` in mode GLOW, and an iteration of the ramp in mode
PULSE. -/
theorem stepOp_cases (p : Config.Params) (s : State) :
    (s.mode = .idle ∧ stepOp p s = s) ∨
    (s.mode = .glow ∧ stepOp p s = applyOp p s.ledsel s.gth s) ∨
    (s.mode = .pulse ∧ stepOp p s = pulseIter p s) := by
  unfold stepOp
  cases h : s.mode
  · exact .inl ⟨rfl, rfl⟩
  · exact .inr (.inl ⟨rfl, rfl⟩)
  · exact .inr (.inr ⟨rfl, rfl⟩)

theorem stepOp_of_idle (p : Config.Params) {s : State} (h : s.mode = .idle) : stepOp p s = s := by
  rcases stepOp_cases p s with ⟨-, e⟩ | ⟨h', -⟩ | ⟨h', -⟩
  · exact e
  · rw [h] at h'; cases h'
  · rw [h] at h'; cases h'

theorem stepOp_of_glow (p : Config.Params) {s : State} (h : s.mode = .glow) :
    stepOp p s = applyOp p s.ledsel s.gth s := by
  rcases stepOp_cases p s with ⟨h', -⟩ | ⟨-, e⟩ | ⟨h', -⟩
  · rw [h] at h'; cases h'
  · exact e
  · rw [h] at h'; cases h'

theorem stepOp_of_pulse (p : Config.Params) {s : State} (h : s.mode = .pulse) :
    stepOp p s = pulseIter p s := by
  rcases stepOp_cases p s with ⟨h', -⟩ | ⟨h', -⟩ | ⟨-, e⟩
  · rw [h] at h'; cases h'
  · rw [h] at h'; cases h'
  · exact e

/-- No operation touches the schedule, the past requests or the cycle number. -/
theorem execFor_keeps_bookkeeping {p : Config.Params} {i : Instr} {s t : State}
    (h : execFor p i s = .next t) :
    t.inputs = s.inputs ∧ t.pastReqs = s.pastReqs ∧ t.cycle = s.cycle := by
  cases i with
  | fastTick => cases h; exact ⟨rfl, rfl, rfl⟩
  | slowTick => cases h; exact ⟨rfl, rfl, rfl⟩
  | nop => cases h; exact ⟨rfl, rfl, rfl⟩
  | rsvd => cases h; exact ⟨rfl, rfl, rfl⟩
  | glow led th =>
    cases h
    obtain ⟨-, -, e⟩ | ⟨-, e⟩ := glowStart_cases p led th s <;> simp [e]
  | pulse led =>
    cases h
    obtain ⟨-, e⟩ | ⟨-, e⟩ := pulseStart_cases led s <;> simp [e]
  | setled led lit =>
    cases h
    obtain ⟨-, e⟩ | ⟨-, e⟩ := setledCommand_cases led lit s <;> simp [e, setledOp_eq]
  | step =>
    cases h
    obtain ⟨-, e⟩ | ⟨-, e⟩ | ⟨-, e⟩ := stepOp_cases p s
    · simp [e]
    · simp [e]
    · obtain ⟨-, e'⟩ | ⟨-, e'⟩ := pulseIter_cases p s <;> simp [e, e', passGate_eq]

@[simp] theorem andThen_next (s : State) (f : State → Host.Outcome State Fault Refusal) :
    andThen (.next s) f = f s := rfl

@[simp] theorem runOps_nil (ex : Executor) (s : State) : runOps ex [] s = .next s := rfl

theorem runOps_cons (ex : Executor) (i : Instr) (ops : List Instr) (s : State) :
    runOps ex (i :: ops) s = andThen (ex i s) (runOps ex ops) := rfl

/-- Running two lists of operations is running the one after the other. -/
theorem runOps_append (ex : Executor) (ops more : List Instr) (s : State) :
    runOps ex (ops ++ more) s = andThen (runOps ex ops s) (runOps ex more) := by
  induction ops generalizing s with
  | nil => rfl
  | cons i ops ih =>
    rw [List.cons_append, runOps_cons, runOps_cons]
    cases ex i s with
    | next s' => exact ih s'
    | fault r => rfl
    | refused r => rfl

/-- A step is the reset of the registers, or the cycle's operations run in order. -/
theorem stepFor_cases (p : Config.Params) (s : State) :
    ((nextInputs s).rst = true ∧ stepFor p s = .next (resetRegs (beginCycle s))) ∨
    ((nextInputs s).rst = false ∧
      stepFor p s = runOps (execFor p) (decodeInputs p (nextInputs s)) (beginCycle s)) := by
  unfold stepFor runCycle runInputs
  cases h : (nextInputs s).rst
  · right; simp
  · left; simp

/-- A property that every operation keeps is kept by a list of them. -/
theorem runOps_keeps {ex : Executor} {P : State → Prop}
    (hop : ∀ i s t, P s → ex i s = .next t → P t) :
    ∀ (ops : List Instr) (s t : State), P s → runOps ex ops s = .next t → P t
  | [], s, t, hs, h => by cases h; exact hs
  | i :: ops, s, t, hs, h => by
    rw [runOps_cons] at h
    cases hi : ex i s with
    | next s' => rw [hi] at h; exact runOps_keeps hop ops s' t (hop i s s' hs hi) h
    | fault r => exact nomatch r
    | refused r => rw [hi] at h; exact absurd h (by simp [andThen])

/-- After a step the sample is gone from the schedule and the earlier cycles' requests stand in the list of
the past ones. -/
theorem stepFor_bookkeeping {p : Config.Params} {s t : State} (h : stepFor p s = .next t) :
    t.inputs = s.inputs.tail ∧ t.pastReqs = s.requests ∧ t.cycle = s.cycle + 1 := by
  obtain ⟨-, e⟩ | ⟨-, e⟩ := stepFor_cases p s <;> rw [e] at h
  · cases h; exact ⟨rfl, rfl, rfl⟩
  · exact runOps_keeps (P := fun u => u.inputs = s.inputs.tail ∧ u.pastReqs = s.requests ∧
        u.cycle = s.cycle + 1)
      (fun i u v hu hv => by
        obtain ⟨e1, e2, e3⟩ := execFor_keeps_bookkeeping hv
        exact ⟨e1.trans hu.1, e2.trans hu.2.1, e3.trans hu.2.2⟩)
      _ (beginCycle s) t ⟨rfl, rfl, rfl⟩ h

/-- A run's first step, for any machine. -/
theorem run_of_step {M : Host.Core} {s t : M.State} (k : Nat) (h : M.step s = .next t) :
    M.run (k + 1) s = M.run k t := by
  simp only [Host.Core.run, h]

/-- A run of the block goes on from the state its first step gives. -/
theorem coreFor_run_of_step {p : Config.Params} {s t : State} (k : Nat) (h : stepFor p s = .next t) :
    (coreFor p).run (k + 1) s = (coreFor p).run k t := run_of_step (M := coreFor p) k h

/-- The machine under the host's name is that of the default parameters. -/
theorem core_eq : core = coreFor Config.params := by
  have h : step = stepFor Config.params := funext step_eq
  rw [core, coreFor, h]

/-- A run of the machine under the host's name is a run of the block with the default parameters. -/
theorem core_run_eq (k : Nat) (s : State) : core.run k s = (coreFor Config.params).run k s := by
  induction k generalizing s with
  | zero => rfl
  | succ k ih =>
    have e := step_eq s
    cases h : stepFor Config.params s with
    | next t =>
      rw [coreFor_run_of_step k h, ← ih t]
      exact run_of_step (M := core) k (e.trans h)
    | fault r => exact nomatch r
    | refused r => simp [Host.Core.run, core, coreFor, e, h]

end Sys2Proof.Machine
end

