-- ==== Sys2Proof/Tests/Slice0.lean ====
section
/-! SUPPORT. The model's own tests: words written out from the spec's encodings, the checks of
`WellFormed` refusing an ill-formed term each, one step per vector of spec/95_test_vectors.md, and for
every statement with hypotheses a state and operands that meet them. -/

namespace Sys2Proof.Tests

open Sys2Proof.Machine

/-- Whether an outcome is exactly a next state. -/
def gives (o : Host.Outcome State Fault Refusal) (t : State) : Bool :=
  match o with
  | .next s => decide (s = t)
  | .fault _ => false
  | .refused _ => false

/-- A state in mode GLOW on LED 2 with `GTH` = 250 (vectors S1, A). -/
def glowState : State := { State.reset with gth := 250, ledsel := 2, mode := .glow }

/-- A state in mode PULSE on LED 0 with `FC` = 7 and the gate open (vectors P). -/
def pulseState : State := { State.reset with fc := 7, sc := 10, mode := .pulse }

/-! ### Decoding: words put together bit by bit from spec/30_encoding.md R46 to R48 -/

theorem test_decode_nop : decodeCmd Config.params 0b000_0000_000000000 = .nop := by decide

theorem test_decode_nop_junk_E2 : decodeCmd Config.params 0x0B23 = .nop := by decide

theorem test_decode_glow_E3 : decodeCmd Config.params 0b001_0010_011111010 = .glow 2 250 := by decide

theorem test_decode_glow_E8 : decodeCmd Config.params 0x3E64 = .glow 15 100 := by decide

theorem test_decode_pulse_E15 : decodeCmd Config.params 0b010_0010_101010101 = .pulse 2 := by decide

theorem test_decode_setled_E22 : decodeCmd Config.params 0b011_0011_000000001 = .setled 3 true := by decide

theorem test_decode_setled_E26 : decodeCmd Config.params 0x67FE = .setled 3 false := by decide

theorem test_decode_rsvd_E27_to_E30 :
    [0x8000, 0xA000, 0xC201, 0xFFFF].map (decodeCmd Config.params) = [.rsvd, .rsvd, .rsvd, .rsvd] := by decide

theorem test_decode_events :
    [0b000, 0b001, 0b010, 0b100, 0b011, 0b101, 0b110, 0b111].map decodeEv =
      [[], [.fastTick], [.slowTick], [.step], [.fastTick, .slowTick], [.fastTick, .step],
       [.slowTick, .step], [.fastTick, .slowTick, .step]] := by decide

theorem test_encode_glow_E4 : encode Config.params (.glow 1 500) = .cmd 0x23F4 := by decide

theorem test_encode_pulse_E16 : encode Config.params (.pulse 15) = .cmd 0x5E00 := by decide

theorem test_encode_setled_E23 : encode Config.params (.setled 5 true) = .cmd 0x6A01 := by decide

/-- The rows of format CMD share no word: two rows disagree on a bit that both fix. -/
theorem test_command_rows_do_not_overlap :
    (opcodeTable.filter TableRow.isCmd).Pairwise
      (fun a b => a.pattern &&& (a.mask &&& b.mask) ≠ b.pattern &&& (a.mask &&& b.mask)) := by decide

theorem test_table_words :
    [(8, 1), (8, 2), (8, 4), (16, 0x0000), (16, 0x2000), (16, 0x4000), (16, 0x6000), (16, 0x8000)].map
      (fun r => decodeTableWord r.1 r.2) =
    [some .fastTick, some .slowTick, some .step, some .nop, some (.glow 0 0), some (.pulse 0),
     some (.setled 0 false), some .rsvd] := by decide

/-! ### WellFormed: one ill-formed term for each check -/

theorem test_wf_params_legal : Config.params.legal = true := by decide

theorem test_wf_period_zero : Config.Params.periodPositive { Config.params with period := 0 } = false := by
  decide

theorem test_wf_pulse_rate_zero :
    Config.Params.pulseRatePositive { Config.params with pulseRate := 0 } = false := by decide

theorem test_wf_slow_inc_zero :
    Config.Params.slowIncPositive { Config.params with slowInc := 0 } = false := by decide

theorem test_wf_period_beyond_fc :
    Config.Params.periodFitsFc { Config.params with period := 65536 } = false := by decide

theorem test_wf_gate_beyond_sc :
    Config.Params.gateFitsSc { Config.params with pulseRate := 65531 } = false := by decide

theorem test_wf_period_beyond_th :
    Config.Params.periodFitsTh { Config.params with period := 512 } = false := by decide

theorem test_wf_dir_too_narrow : Config.Params.dirFits { Config.params with dirWidth := 1 } = false := by
  decide

theorem test_wf_led_idx_too_narrow :
    Config.Params.ledIdxFits { Config.params with ledIdxWidth := 2 } = false := by decide

theorem test_wf_params_illegal : Config.Params.legal { Config.params with period := 512 } = false := by
  decide

theorem test_wf_led_beyond_field : ledFits Config.params 16 = false := by decide

theorem test_wf_threshold_beyond_field : thresholdFits Config.params 512 = false := by decide

theorem test_wf_instr_refused :
    [Instr.glow 16 0, .glow 0 512, .pulse 16, .setled 16 true].map (Instr.wellFormed Config.params) =
      [false, false, false, false] := by decide

theorem test_wf_two_commands : atMostOneCommand [.nop, .step, .pulse 1] = false := by decide

theorem test_wf_event_twice : eachEventAtMostOnce [.step, .nop, .step] = false := by decide

theorem test_wf_cycle_refused : wellFormedCycle Config.params [.fastTick, .fastTick] = false := by decide

theorem test_wf_cycle_operand_refused : wellFormedCycle Config.params [.step, .glow 16 0] = false := by decide

theorem test_wf_cycle_K5 :
    wellFormedCycle Config.params [.step, .setled 3 true, .slowTick, .fastTick] = true := by decide

/-! ### One operation each, from spec/95_test_vectors.md -/

theorem test_fast_tick_T3 :
    gives (exec .fastTick { glowState with fc := 499 }) { glowState with fc := 500 } = true := by decide

theorem test_fast_tick_T5 :
    gives (exec .fastTick { State.reset with fc := 65535 }) { State.reset with fc := 0 } = true := by decide

theorem test_slow_tick_T8 :
    gives (exec .slowTick { pulseState with sc := 10 }) { pulseState with sc := 15 } = true := by decide

theorem test_slow_tick_T11 :
    gives (exec .slowTick { State.reset with sc := 65535 }) { State.reset with sc := 4 } = true := by decide

theorem test_step_glow_A28 :
    gives (exec .step { glowState with fc := 300, onState := true, ledOut := 0b1111 })
      { glowState with fc := 300, onState := false, ledOut := 0b1011, cycleReqs := [⟨2, false⟩] } = true := by
  decide

theorem test_step_pulse_P9 :
    gives (exec .step { pulseState with ramp := 500, dir := .up })
      { pulseState with ramp := 499, dir := .down, sc := 0, onState := true, ledOut := 0b0001,
                        cycleReqs := [⟨0, true⟩] } = true := by decide

theorem test_nop_K7 : gives (exec .nop glowState) glowState = true := by decide

theorem test_glow_G1 :
    gives (exec (.glow 2 250) State.reset)
      { State.reset with gth := 250, ledsel := 2, mode := .glow } = true := by decide

theorem test_glow_G8_rejected : gives (exec (.glow 0 501) State.reset) State.reset = true := by decide

theorem test_pulse_P14 :
    gives (exec (.pulse 2) { State.reset with fc := 700, sc := 65535 })
      { State.reset with fc := 700, sc := 65535, ledsel := 2, mode := .pulse } = true := by decide

theorem test_pulse_K9_ignored : gives (exec (.pulse 1) glowState) glowState = true := by decide

theorem test_setled_L9 :
    gives (exec (.setled 3 false) { State.reset with ledOut := 0b1000 })
      { State.reset with ledOut := 0b0000, cycleReqs := [⟨3, false⟩] } = true := by decide

theorem test_setled_L10 :
    gives (exec (.setled 5 true) { State.reset with ledOut := 0b0110 })
      { State.reset with ledOut := 0b0110, cycleReqs := [⟨5, true⟩] } = true := by decide

theorem test_rsvd_K8 : gives (exec .rsvd pulseState) pulseState = true := by decide

/-! ### One cycle each -/

theorem test_cycle_K1_tick_before_step :
    gives (step { glowState with fc := 499, inputs := [presentCycle Config.params [.step, .fastTick]] })
      { glowState with fc := 0, cycle := 1 } = true := by decide

theorem test_cycle_K3_command_before_step :
    gives (step { State.reset with inputs := [presentCycle Config.params [.fastTick, .glow 2 250, .step]] })
      { glowState with fc := 1, onState := true, ledOut := 0b0100, cycleReqs := [⟨2, true⟩], cycle := 1 } =
      true := by decide

theorem test_cycle_X1_reset_beats_all :
    gives (step { glowState with
        fc := 321, sc := 40, onState := true, ledOut := 0b0110
        inputs := [{ rst := true, fastTick := true, slowTick := true, stepEn := true, cmdValid := true,
                     cmd := 0x6001 }] })
      { State.reset with cycle := 1 } = true := by decide

theorem test_with_fetch_word_glow :
    gives (step (State.reset.withFetchWord 16 0x24FA)) { glowState with cycle := 1 } = true := by decide

/-! ### Another legal set: `PERIOD` 1000 and `TH_WIDTH` 10, with command words of 17 bits (R6, R7, R47) -/

/-- A legal set whose `PERIOD` no 9-bit threshold reaches. -/
def wideParams : Config.Params := { Config.params with period := 1000, thWidth := 10 }

theorem test_wide_params_legal : wideParams.legal = true ∧ wideParams.cmdWidth = 17 := by decide

theorem test_wide_glow_decodes : decodeCmd wideParams 0b001_0010_1111101000 = .glow 2 1000 := by decide

/-- A counter of 8 bits wraps from 255 to 0 (R60, D4). -/
theorem test_narrow_fc_wraps :
    gives (execFor { Config.params with period := 100, fcWidth := 8 } .fastTick
      { State.reset with fc := 255 }) State.reset = true := by decide

theorem test_wide_glow_accepted :
    gives (stepFor wideParams { State.reset with inputs := [(encode wideParams (.glow 2 1000)).inputs] })
      { State.reset with gth := 1000, ledsel := 2, mode := .glow, cycle := 1 } = true := by decide

/-! ### The host's side -/

theorem test_glowb_B5_tie : expandGlowb Config.params 3 (1 / 1000) = some (.glow 3 1) := by
  have h : glowbThreshold Config.params (1 / 1000) = 1 := by
    have : ((500 : Rat) * (1 / 1000) + 1 / 2).floor = 1 := by
      change ⌊(500 : Rat) * (1 / 1000) + 1 / 2⌋ = 1
      norm_num
    simp only [glowbThreshold, Laws.params_period]
    rw [show ((500 : Nat) : Rat) = 500 from by norm_num, this]; rfl
  rw [expandGlowb, if_pos (by norm_num), h]

theorem test_glowb_B12_out_of_range : expandGlowb Config.params 0 (11 / 10) = none := by
  rw [expandGlowb, if_neg (by norm_num)]

end Sys2Proof.Tests
end

