-- ==== Sys2Proof/Tests/Witnesses.lean ====
section
/-! SUPPORT. For every statement of Certificates/Slice0/Obligations.lean that has hypotheses, a concrete
state and operands that meet them, at the boundary values of each clause. A theorem's name is witness_ and
the statement's name. -/

namespace Sys2Proof.Tests

open Sys2Proof.Machine

/-- The end of a step, or the given state where it does not answer a next state. -/
def afterStep (s : State) : State :=
  match step s with
  | .next t => t
  | .fault _ => s
  | .refused _ => s

/-- A state in mode GLOW whose next cycle is `cycle { FAST_TICK, STEP }`. -/
def glowCycleState : State := { glowState with inputs := [fastStepCycle] }

theorem glowState_inv : RegsInv Config.params glowState :=
  ⟨by decide, by decide, nofun, nofun, fun _ => ⟨rfl, rfl⟩, nofun⟩

theorem pulseState_inv : RegsInv Config.params pulseState :=
  ⟨by decide, by decide, fun _ _ => rfl, nofun, nofun, fun _ => rfl⟩

/-! ### Encoding -/

theorem witness_DecodeEncodeRoundTrip :
    (Config.params.legal = true ∧ (Instr.glow 15 511).wellFormed Config.params = true ∧
      encode Config.params (.glow 15 511) = .cmd 0x3FFF) ∧
    (wideParams.legal = true ∧ (Instr.glow 15 1023).wellFormed wideParams = true) := by decide

theorem witness_CommandWordFieldsSelectAndFillTheCommand :
    (0x0000 / 8192 = 0 ∧ 0x1FFF / 8192 = 0 ∧ 0x2000 / 8192 = 1 ∧ 0x3FFF / 8192 = 1 ∧ 0x4000 / 8192 = 2 ∧
      0x5FFF / 8192 = 2 ∧ 0x6000 / 8192 = 3 ∧ 0x7FFF / 8192 = 3 ∧ 4 ≤ 0x8000 / 8192 ∧ 4 ≤ 0xFFFF / 8192 ∧
      0xFFFF < 65536) ∧
    (wideParams.legal = true ∧ 7 < 8 ∧ 15 < 2 ^ wideParams.ledIdxWidth ∧ 1023 < 2 ^ wideParams.thWidth) := by
  decide

theorem witness_IgnoredFieldsHaveNoEffect :
    Config.params.legal = true ∧ 0xFFFF < 2 ^ Config.params.cmdWidth ∧
    (0x0000 / 2 ^ (4 + 9) = 0 ∧ 0x0B23 / 2 ^ (4 + 9) = 0) ∧
    (0x4400 / 2 ^ (4 + 9) = 2 ∧ 0x4555 / 2 ^ 9 = 0x4400 / 2 ^ 9) ∧
    (0x6601 / 2 ^ (4 + 9) = 3 ∧ 0x67FF / 2 ^ 9 = 0x6601 / 2 ^ 9 ∧ 0x67FF % 2 = 0x6601 % 2) ∧
    (4 ≤ 0x8000 / 2 ^ (4 + 9) ∧ 4 ≤ 0xFFFF / 2 ^ (4 + 9)) := by decide

theorem witness_PresentedCycleSelectsItsOperationsInOrder :
    Config.params.legal = true ∧
    wellFormedCycle Config.params [.step, .setled 3 true, .slowTick, .fastTick] = true ∧
    wellFormedCycle Config.params [] = true := by decide

/-! ### Parameter sets -/

theorem witness_LegalParameterSetsMeetTheConstraints :
    wideParams.legal = true ∧ Config.Params.legal { Config.params with dirWidth := 5 } = true ∧
    Config.Params.legal { Config.params with ledIdxWidth := 3 } = true := by decide

/-! ### The cycle -/

theorem witness_StepRunsTheDecodedInstruction :
    (({ State.reset with inputs := [Code.inputs (.cmd 0x24FA)] } : State).inputs =
        Code.inputs (.cmd 0x24FA) :: [] ∧
      (Code.inputs (.cmd 0x24FA)).rst = false ∧
      decodeInputs Config.params (Code.inputs (.cmd 0x24FA)) = [.glow 2 250]) ∧
    (decode Config.params (tableCode 8 4) = [.step] ∧ decode Config.params (tableCode 16 0xFFFF) = [.rsvd]) ∧
    ((Instr.setled 15 true).wellFormed Config.params = true ∧
      ({ State.reset with inputs := [(encode Config.params (.setled 15 true)).inputs] } : State).inputs =
        (encode Config.params (.setled 15 true)).inputs :: []) ∧
    decodeInputs wideParams (Code.inputs (.cmd 0x4BE8)) = [.glow 2 1000] := by decide

theorem witness_CycleRunsTicksThenCommandThenStep :
    glowCycleState.inputs = fastStepCycle :: [] ∧ fastStepCycle.rst = false ∧
    fastStepCycle.fastTick = true ∧ fastStepCycle.slowTick = false ∧ fastStepCycle.stepEn = true ∧
    fastStepCycle.cmdValid = false ∧ (Code.inputs (.cmd 0x24FA)).cmdValid = true ∧
    Inputs.reset.rst = true := by decide

theorem witness_AtMostOneRequestPerCycle :
    gives (stepFor Config.params glowCycleState) (afterStep glowCycleState) = true ∧
    (afterStep glowCycleState).cycleReqs = [⟨2, true⟩] ∧
    gives (execFor Config.params (.setled 5 true) State.reset)
      { State.reset with cycleReqs := [⟨5, true⟩] } = true ∧
    ({ State.reset with cycleReqs := [⟨5, true⟩] } : State).cycleReqs ≠ State.reset.cycleReqs := by decide

theorem witness_ResetHasPriorityAndRestoresResetState :
    (({ glowState with inputs := [Inputs.reset] } : State).inputs = Inputs.reset :: [] ∧
      Inputs.reset.rst = true) ∧
    ([Inputs.reset, Inputs.reset].length = 1 + 1 ∧ (∀ h ∈ [Inputs.reset, Inputs.reset], h.rst = true) ∧
      ({ glowState with inputs := [Inputs.reset, Inputs.reset, fastStepCycle] } : State).inputs =
        [Inputs.reset, Inputs.reset] ++ fastStepCycle :: [] ∧ fastStepCycle.rst = false) := by decide

theorem witness_QuietCycleHoldsTheState :
    ({ glowState with inputs := [{ Inputs.quiet with cmd := 0x6001 }] } : State).inputs =
      { Inputs.quiet with cmd := 0x6001 } :: [] ∧
    Inputs.quiet.rst = false ∧ Inputs.quiet.fastTick = false ∧ Inputs.quiet.slowTick = false ∧
    Inputs.quiet.stepEn = false ∧ Inputs.quiet.cmdValid = false := by decide

theorem witness_CycleDependsOnRegistersAndSampleOnly :
    glowCycleState.regs =
      ({ glowState with inputs := [{ fastStepCycle with cmd := 0x4000 }], cycle := 9 } : State).regs ∧
    SameSample fastStepCycle { fastStepCycle with cmd := 0x4000 } ∧
    SameSample Inputs.reset { fastStepCycle with rst := true } ∧
    gives (stepFor Config.params glowCycleState) (afterStep glowCycleState) = true := by decide

theorem witness_RequestPortsShowTheCyclesRequest :
    gives (stepFor Config.params glowCycleState) (afterStep glowCycleState) = true ∧
    (afterStep glowCycleState).requests = glowCycleState.requests ++ [⟨2, true⟩] := by decide

/-! ### Tick Source -/

theorem witness_TickBeforeWrapOrGateIsAbsorbed :
    RegsInv Config.params { glowState with fc := 500 } ∧
    (({ glowState with fc := 500 } : State).mode ≠ .idle ∧ Config.params.period ≤ 500 ∧
      500 + 1 < 2 ^ Config.params.fcWidth ∧ 65534 + 1 < 2 ^ Config.params.fcWidth) ∧
    (pulseState.mode = .pulse ∧ Config.params.pulseRate ≤ pulseState.sc ∧
      pulseState.sc + Config.params.slowInc < 2 ^ Config.params.scWidth) :=
  ⟨⟨by decide, by decide, nofun, nofun, fun _ => ⟨rfl, rfl⟩, nofun⟩, by decide, by decide⟩

/-! ### LED Output -/

theorem witness_SetledOpWritesOneBitAndEmits :
    (0 < 4 ∧ 3 < 4) ∧ 4 ≤ 4 ∧ 4 ≤ 15 := by decide

theorem witness_SetledActsInIdleOnly :
    State.reset.mode = .idle ∧ glowState.mode ≠ .idle ∧ pulseState.mode ≠ .idle := by decide

theorem witness_LedOutChangesOnlyThroughRequests :
    gives (execFor Config.params (.setled 2 true) State.reset)
      { State.reset with cycleReqs := [⟨2, true⟩], ledOut := 0b0100 } = true ∧
    ((nextInputs glowCycleState).rst = false ∧
      gives (stepFor Config.params glowCycleState) (afterStep glowCycleState) = true) ∧
    gives (execFor Config.params (.glow 2 250) State.reset) glowState = true := by decide

theorem witness_LedOutIsReadByNoOperation :
    gives (stepFor Config.params glowCycleState) (afterStep glowCycleState) = true := by decide

theorem witness_MissingLedIsIgnoredAtTheOutputOnly :
    (({ glowState with ledsel := 4 } : State).mode ≠ .idle ∧
      4 ≤ ({ glowState with ledsel := 4 } : State).ledsel ∧
      gives (execFor Config.params .step { glowState with ledsel := 4 })
        { glowState with ledsel := 4, onState := true, cycleReqs := [⟨4, true⟩] } = true) ∧
    (State.reset.mode = .idle ∧ 4 ≤ 4 ∧ 4 ≤ 15) := by decide

/-! ### PWM Engine -/

theorem witness_ApplyCommandsByRegion :
    249 < 250 ∧ (250 ≤ 250 ∧ 250 < Config.params.period) ∧
    (250 ≤ 499 ∧ 499 < Config.params.period) ∧
    (250 ≤ 500 ∧ Config.params.period ≤ 500) := by decide

theorem witness_ApplyIsIdempotentBelowPeriod :
    499 < Config.params.period ∧
    (500 ≤ Config.params.period ∧ Config.params.period ≤ 500) := by decide

theorem witness_DriverRequestsAlternate :
    (glowCycleState.mode ≠ .idle ∧ NoReset glowCycleState) ∧
    ((afterStep glowCycleState).requests = glowCycleState.requests ++ [⟨2, true⟩]) := by decide

theorem witness_OtherLedsKeepWhatTheHostSet :
    (glowCycleState.mode ≠ .idle ∧ NoReset glowCycleState) ∧ 3 ≠ glowCycleState.ledsel := by decide

theorem witness_ApplyIsTheSoleWrapPoint :
    (500 ≤ Config.params.period ∧ Config.params.period ≤ 65535 ∧
      ({ glowState with fc := 65535, onState := true } : State).onState = true) ∧
    (gives (execFor Config.params .fastTick glowState) { glowState with fc := 1 } = true ∧
      ({ glowState with fc := 1 } : State).fc ≠ glowState.fc) ∧
    (gives (execFor Config.params .step { glowState with fc := 500 }) glowState = true ∧
      glowState.fc ≠ ({ glowState with fc := 500 } : State).fc) := by decide

theorem witness_GlowAtThresholdZeroNeverRequests :
    ({ glowCycleState with gth := 0 } : State).mode = .glow ∧
    ({ glowCycleState with gth := 0 } : State).gth = 0 ∧
    ({ glowCycleState with gth := 0 } : State).onState = false ∧
    NoReset { glowCycleState with gth := 0 } := by decide

theorem witness_GlowAtThresholdPeriodRequestsOnce :
    (({ glowCycleState with gth := 500, fc := 499 } : State).mode = .glow ∧
      ({ glowCycleState with gth := 500, fc := 499 } : State).gth = Config.params.period ∧
      ({ glowCycleState with gth := 500, fc := 499 } : State).onState = false ∧ 499 < Config.params.period) ∧
    NoReset { glowCycleState with gth := 500 } := by decide

/-! ### Glow Driver -/

theorem witness_GlowStartsTheDriver :
    (State.reset.mode = .idle ∧ 500 ≤ 500 ∧ 0 ≤ 500) ∧ glowState.mode ≠ .idle ∧
    500 < 501 := by decide

theorem witness_OutOfRangeGlowLeavesIdleForALaterOne :
    State.reset.mode = .idle ∧ 500 < 501 ∧ 500 < 511 ∧ 1 ≤ 500 := by decide

theorem witness_StepInGlowAppliesTheGlowThreshold : glowState.mode = .glow := by decide

theorem witness_DriversRunUntilReset :
    (glowCycleState.mode ≠ .idle ∧ NoReset glowCycleState) ∧
    (pulseState.mode ≠ .idle ∧ Instr.isCommand (.setled 0 true) = true) := by decide

theorem witness_GlowDutyCycleWithOneStepPerTick :
    (Config.params.legal = true ∧ 2 ≤ Config.params.period ∧ 3 < 4 ∧ 500 ≤ Config.params.period ∧
      0 ≤ Config.params.period) ∧
    (Config.Params.legal { Config.params with period := 2 } = true ∧ 2 ≤ 2) ∧
    (1 ≤ 1 ∧ 1 < Config.params.period ∧ 499 < Config.params.period) := by decide

theorem witness_BrightnessRoundsHalfUpOrIsRefused :
    (Config.params.legal = true ∧ ledFits Config.params 15 = true) ∧ ((0 : Rat) ≤ 0 ∧ (0 : Rat) ≤ 1) ∧
    ((0 : Rat) ≤ 1 ∧ (1 : Rat) ≤ 1) ∧ ((-1 / 10 : Rat) < 0) ∧ (1 : Rat) < 11 / 10 :=
  ⟨by decide, by norm_num⟩

theorem witness_DriverStartValues :
    State.reset.mode = .idle ∧ gives (execFor Config.params (.glow 2 250) State.reset) glowState = true ∧
    gives (execFor Config.params (.pulse 2) State.reset)
      { State.reset with ledsel := 2, mode := .pulse } = true ∧
    glowState.mode ≠ .idle := by decide

/-! ### Pulse Glow Driver -/

theorem witness_PulseStartsTheDriver : State.reset.mode = .idle ∧ glowState.mode ≠ .idle := by decide

theorem witness_StepInPulseAppliesThenPassesTheGate :
    Config.params.legal = true ∧ pulseState.mode = .pulse ∧ 9 < Config.params.pulseRate ∧
    Config.params.pulseRate ≤ pulseState.sc ∧ 499 < Config.params.period ∧ Config.params.period ≤ 500 ∧
    Dir.down ≠ .up ∧ pulseState.dir ≠ .up ∧ 0 < 1 ∧ pulseState.ramp = 0 := by decide

theorem witness_RampStepFollowsTheDirectionTable :
    Config.params.legal = true ∧ pulseState.ramp ≤ Config.params.period ∧
    499 < Config.params.period ∧ 500 = Config.params.period ∧ pulseState.dir ≠ .up ∧
    0 < 1 ∧ pulseState.ramp = 0 ∧
    Config.Params.legal { Config.params with period := 1, pulseRate := 1, slowInc := 1 } = true ∧
    Config.Params.legal { Config.params with period := 511 } = true := by decide

theorem witness_RampPingPongsBetweenZeroAndPeriod :
    Config.params.legal = true ∧ pulseState.ramp = 0 ∧ pulseState.dir = .unset := by decide

theorem witness_FirstGatedStepClimbs :
    Config.params.legal = true ∧ pulseState.mode = .pulse ∧ pulseState.ramp = 0 ∧ pulseState.dir = .unset ∧
    Config.params.pulseRate ≤ pulseState.sc := by decide

theorem witness_PassedGateStepsOnceAndConsumesSurplus :
    Config.params.legal = true ∧ pulseState.mode = .pulse ∧ pulseState.ramp ≤ Config.params.period ∧
    Config.params.pulseRate ≤ pulseState.sc ∧ Config.params.pulseRate ≤ 65535 := by decide

theorem witness_RampAdvancesEverySecondSlowTick :
    ({ pulseState with sc := 0, inputs := List.replicate (2 * 3) slowStepCycle } : State).mode = .pulse ∧
    pulseState.ramp = 0 ∧ pulseState.dir = .unset ∧
    ({ pulseState with sc := 0, inputs := List.replicate (2 * 3) slowStepCycle } : State).sc = 0 ∧
    ({ pulseState with sc := 0, inputs := List.replicate (2 * 3) slowStepCycle } : State).inputs =
      List.replicate (2 * 3) slowStepCycle := by decide

/-! ### Control -/

theorem witness_NopAndReservedCommandsDoNothing :
    0x1FFF < 8192 ∧ (32768 ≤ 0x8000 ∧ 0xFFFF < 65536) ∧ cmdOp wideParams 0x3FFF = 0 ∧
    4 ≤ cmdOp wideParams 0x10000 := by decide

theorem witness_CommandsActInIdleOnlyAndStartOneDriver :
    glowState.mode ≠ .idle ∧ gives (execFor Config.params (.glow 2 250) State.reset) glowState = true ∧
    glowState.mode ≠ State.reset.mode := by decide

theorem witness_StepInIdleChangesNothing : ({ State.reset with fc := 700 } : State).mode = .idle := by decide

/-! ### Invariants and hazards -/

theorem witness_EveryStepKeepsTheRegisterInvariant :
    Config.params.legal = true ∧ RegsInv Config.params glowCycleState ∧
    gives (exec .step glowCycleState)
      { glowCycleState with onState := true, ledOut := 0b0100, cycleReqs := [⟨2, true⟩] } = true ∧
    gives (step glowCycleState) (afterStep glowCycleState) = true ∧
    gives (stepFor Config.params glowCycleState) (afterStep glowCycleState) = true :=
  ⟨by decide, ⟨by decide, by decide, nofun, nofun, fun _ => ⟨rfl, rfl⟩, nofun⟩, by decide, by decide⟩

theorem witness_EveryStepKeepsTheWidths :
    (Config.params.legal = true ∧ (Instr.glow 15 500).wellFormed Config.params = true ∧
      gives (execFor Config.params (.glow 15 500) State.reset)
        { State.reset with gth := 500, ledsel := 15, mode := .glow } = true) ∧
    FitsWidths Config.params { glowCycleState with fc := 65535, sc := 65535, pastReqs := [⟨15, true⟩] } ∧
    gives (step glowCycleState) (afterStep glowCycleState) = true ∧
    gives (stepFor Config.params glowCycleState) (afterStep glowCycleState) = true :=
  ⟨by decide, ⟨by decide, by decide, by decide, by decide, by decide, by decide⟩, by decide⟩

theorem witness_ReachableStatesMeetTheRegisterInvariant :
    Reachable Config.params
      (afterStep { State.reset with inputs := [presentCycle Config.params [.glow 2 250, .step]] }) :=
  Reachable.step (Reachable.reset [presentCycle Config.params [.glow 2 250, .step]]) rfl

theorem witness_OnAgreesWithTheLedItCaches :
    (State.reset.mode = .idle ∧ gives (execFor Config.params (.glow 2 250) State.reset) glowState = true ∧
      glowState.mode ≠ .idle ∧ State.reset.ledOut.getLsbD glowState.ledsel = false) ∧
    (CacheAgrees { glowState with onState := true, ledOut := 0b0100 } ∧
      gives (execFor Config.params .step { glowState with fc := 250, onState := true, ledOut := 0b0100 })
        { glowState with fc := 250, cycleReqs := [⟨2, false⟩] } = true) := by decide

theorem witness_FcCannotOverflowWithinTheStepWindow :
    (Config.params.legal = true ∧ RegsInv Config.params glowState ∧ glowState.mode ≠ .idle ∧
      gives (execFor Config.params .step glowState)
        { glowState with onState := true, ledOut := 0b0100, cycleReqs := [⟨2, true⟩] } = true) ∧
    (65036 ≤ 2 ^ Config.params.fcWidth - Config.params.period ∧ 499 ≤ Config.params.period - 1) :=
  ⟨⟨by decide, glowState_inv, by decide, by decide⟩, by decide⟩

theorem witness_ScCannotOverflowWithinTheStepWindow :
    (Config.params.legal = true ∧ pulseState.mode = .pulse ∧
      gives (execFor Config.params .step pulseState)
        { pulseState with sc := 0, ramp := 1, dir := .up } = true) ∧
    (13105 ≤ (2 ^ Config.params.scWidth - Config.params.pulseRate) / Config.params.slowInc ∧
      9 ≤ Config.params.pulseRate - 1) := by decide

theorem witness_ScIsNeitherReadNorClearedOutsidePulse :
    glowState.mode ≠ .pulse ∧ State.reset.mode ≠ .pulse ∧ Instr.step ≠ .slowTick ∧
    gives (execFor Config.params .step glowState)
      { glowState with onState := true, ledOut := 0b0100, cycleReqs := [⟨2, true⟩] } = true := by decide

end Sys2Proof.Tests
end

/-! SUPPORT. The obligations of spec/00_scope.md: the round trip of the encoding, the legal parameter sets, the
default machine, and the register widths, with the lemmas they are assembled from. -/

/-! ### The encoding -/

namespace Sys2Proof

@[simp] theorem wellFormed_glow_iff (p : Config.Params) (led t : Nat) :
    (Instr.glow led t).wellFormed p = true ↔ led < 2 ^ p.ledIdxWidth ∧ t < 2 ^ p.thWidth := by
  simp [Instr.wellFormed, ledFits, thresholdFits]

@[simp] theorem wellFormed_pulse_iff (p : Config.Params) (led : Nat) :
    (Instr.pulse led).wellFormed p = true ↔ led < 2 ^ p.ledIdxWidth := by
  simp [Instr.wellFormed, ledFits]

@[simp] theorem wellFormed_setled_iff (p : Config.Params) (led : Nat) (lit : Bool) :
    (Instr.setled led lit).wellFormed p = true ↔ led < 2 ^ p.ledIdxWidth := by
  simp [Instr.wellFormed, ledFits]

/-- The command that the fields `op`, `led` and `arg` of a word stand for (R48, R49, R51). -/
def commandOf (op led arg : Nat) : Instr :=
  if op = 0 then .nop else if op = 1 then .glow led arg else if op = 2 then .pulse led
  else if op = 3 then .setled led (decide (arg % 2 = 1)) else .rsvd

/-- Bit 0 of a word is bit 0 of its `arg` field, which has at least one bit. -/
theorem cmdOn_cmdWordOf {p : Config.Params} (op led arg : Nat) (hw : 1 ≤ p.thWidth) :
    cmdOn (cmdWordOf p op led arg) = decide (arg % 2 = 1) := by
  have heven : 2 ∣ (op * 2 ^ p.ledIdxWidth + led) * 2 ^ p.thWidth :=
    Dvd.dvd.mul_left (dvd_pow_self 2 (by omega)) _
  have hmod : cmdWordOf p op led arg % 2 = arg % 2 := by rw [cmdWordOf]; omega
  rw [cmdOn, Nat.testBit_zero, hmod]

/-- Decoding an assembled word reads its three fields back. -/
theorem decodeCmd_cmdWordOf {p : Config.Params} {op led arg : Nat} (hw : 1 ≤ p.thWidth) (ho : op < 8)
    (hl : led < 2 ^ p.ledIdxWidth) (ha : arg < 2 ^ p.thWidth) :
    decodeCmd p (cmdWordOf p op led arg) = commandOf op led arg := by
  have h := decodeCmd_cases p (cmdWordOf p op led arg)
  rw [cmdOp_cmdWordOf p ho hl ha, cmdLed_cmdWordOf p hl ha, cmdArg_cmdWordOf p ha,
    cmdOn_cmdWordOf op led arg hw] at h
  obtain ⟨h, e⟩ | ⟨h, e⟩ | ⟨h, e⟩ | ⟨h, e⟩ | ⟨h, e⟩ := h
  · rw [e, h]; rfl
  · rw [e, h]; rfl
  · rw [e, h]; rfl
  · rw [e, h]; rfl
  · rw [e, commandOf, if_neg (by omega), if_neg (by omega), if_neg (by omega), if_neg (by omega)]

/-- An event's encoding is the vector that selects it alone. -/
theorem encode_event (p : Config.Params) {i : Instr} (hi : i.isCommand = false) :
    ∃ v, encode p i = .ev v ∧ decodeEv v = [i] := by
  cases i with
  | fastTick => exact ⟨0b001, rfl, by decide⟩
  | slowTick => exact ⟨0b010, rfl, by decide⟩
  | step => exact ⟨0b100, rfl, by decide⟩
  | nop => cases hi
  | glow led t => cases hi
  | pulse led => cases hi
  | setled led lit => cases hi
  | rsvd => cases hi

/-- A command's encoding is a word assembled from fields that stand for the command, each within its width. -/
theorem encode_command {p : Config.Params} {i : Instr} (hw : 1 ≤ p.thWidth)
    (hi : i.isCommand = true) (hwf : i.wellFormed p = true) :
    ∃ op led arg, op < 8 ∧ led < 2 ^ p.ledIdxWidth ∧ arg < 2 ^ p.thWidth ∧
      encode p i = .cmd (cmdWordOf p op led arg) ∧ commandOf op led arg = i := by
  have hl0 : 0 < 2 ^ p.ledIdxWidth := Nat.two_pow_pos _
  have ha0 : 0 < 2 ^ p.thWidth := Nat.two_pow_pos _
  cases i with
  | fastTick => cases hi
  | slowTick => cases hi
  | step => cases hi
  | nop => exact ⟨0, 0, 0, by decide, hl0, ha0, rfl, rfl⟩
  | rsvd => exact ⟨4, 0, 0, by decide, hl0, ha0, rfl, rfl⟩
  | glow led t =>
    obtain ⟨hl, ht⟩ := (wellFormed_glow_iff p led t).mp hwf
    exact ⟨1, led, t, by decide, hl, ht, rfl, rfl⟩
  | pulse led => exact ⟨2, led, 0, by decide, (wellFormed_pulse_iff p led).mp hwf, ha0, rfl, rfl⟩
  | setled led lit =>
    have hlit : lit.toNat < 2 ^ p.thWidth := (Bool.toNat_lt lit).trans_le (Nat.le_self_pow (by omega) 2)
    refine ⟨3, led, lit.toNat, by decide, (wellFormed_setled_iff p led lit).mp hwf, hlit, rfl, ?_⟩
    cases lit <;> rfl

/-- Settles O1: an event goes through its vector, a command through the fields of its word. -/
theorem decodeEncodeRoundTrip : Obligations.DecodeEncodeRoundTrip := by
  intro p i hlegal hwf
  have hw := Laws.legal_thWidth_pos hlegal
  cases hi : i.isCommand with
  | false =>
    obtain ⟨v, henc, hdec⟩ := encode_event p hi
    rw [henc]
    exact ⟨hdec, nofun⟩
  | true =>
    obtain ⟨op, led, arg, ho, hl, ha, henc, hcmd⟩ := encode_command hw hi hwf
    rw [henc]
    refine ⟨?_, ?_⟩
    · rw [decode, decodeCmd_cmdWordOf hw ho hl ha, hcmd]
    · rintro w ⟨⟩
      exact cmdWordOf_lt p ho hl ha

/-- Every operation a cycle's inputs select has operands that fit their fields, whatever `cmd` is. -/
theorem decodeInputs_wellFormed (p : Config.Params) (inp : Inputs) :
    ∀ i ∈ decodeInputs p inp, i.wellFormed p = true := by
  intro i hi
  simp only [decodeInputs, List.mem_append, List.mem_ite_nil_right, List.mem_singleton] at hi
  obtain ((⟨-, rfl⟩ | ⟨-, rfl⟩) | ⟨-, rfl⟩) | ⟨-, rfl⟩ := hi
  · rfl
  · rfl
  · exact decodeCmd_wellFormed p inp.cmd
  · rfl

/-! ### The parameter sets -/

theorem legal_iff (p : Config.Params) :
    p.legal = true ↔
      1 ≤ p.period ∧ 1 ≤ p.pulseRate ∧ 1 ≤ p.slowInc ∧ p.period < 2 ^ p.fcWidth ∧
      p.pulseRate + p.slowInc < 2 ^ p.scWidth ∧ p.period < 2 ^ p.thWidth ∧ 2 ≤ p.dirWidth ∧
      4 < 2 ^ p.ledIdxWidth := by
  refine ⟨Laws.legal_bounds, ?_⟩
  rintro ⟨hperiod, hrate, hinc, hfc, hsc, hth, hdir, hled⟩
  simp [Config.Params.legal, Config.Params.periodPositive, Config.Params.pulseRatePositive,
    Config.Params.slowIncPositive, Config.Params.periodFitsFc, Config.Params.gateFitsSc,
    Config.Params.periodFitsTh, Config.Params.dirFits, Config.Params.ledIdxFits, *]

/-- Two bits of two's complement hold -1, 0 and +1, and so does every greater width (R14). -/
theorem toInt_dir_bits {p : Config.Params} (d : Machine.Dir) (hw : 2 ≤ p.dirWidth) :
    (d.bits p).toInt = d.value := by
  have hpow : (2 : Int) ≤ 2 ^ (p.dirWidth - 1) := le_self_pow₀ (by decide) (by omega)
  have hlo : -1 ≤ d.value := by cases d <;> decide
  have hhi : d.value ≤ 1 := by cases d <;> decide
  exact BitVec.toInt_ofInt_eq_self (by omega) (by omega) (by omega)

/-- Settles O8: the constraints by `legal_iff`, `DIR` by its two bits or more. -/
theorem legalParameterSetsMeetTheConstraints : Obligations.LegalParameterSetsMeetTheConstraints := by
  refine ⟨legal_iff, fun p => rfl, fun p d hlegal => ?_, rfl, rfl, Laws.params_legal⟩
  obtain ⟨-, -, -, -, -, -, hdir, -⟩ := (legal_iff p).mp hlegal
  exact toInt_dir_bits d hdir

/-- Settles O9, by the laws that `exec`, `step` and `core` are the block at the defaults. -/
theorem defaultsGiveTheHostsMachine : Obligations.DefaultsGiveTheHostsMachine :=
  ⟨rfl, Machine.exec_eq, Machine.step_eq, Machine.core_eq⟩

end Sys2Proof

/-! ### The widths of the registers -/

namespace Sys2Proof.Machine

/-- A property that each operation of a list keeps is kept by the list. -/
theorem runOps_keeps_of_mem {ex : Executor} {P : State → Prop} {ops : List Instr}
    (hop : ∀ i ∈ ops, ∀ s t, P s → ex i s = .next t → P t) {s t : State} (hs : P s)
    (h : runOps ex ops s = .next t) : P t := by
  induction ops generalizing s with
  | nil => cases h; exact hs
  | cons i ops ih =>
    rw [runOps_cons] at h
    cases hi : ex i s with
    | next u =>
      rw [hi] at h
      exact ih (fun j hj => hop j (List.mem_cons_of_mem i hj)) (hop i List.mem_cons_self s u hs hi) h
    | fault r => exact nomatch r
    | refused r => rw [hi] at h; cases h

section FitsWidths

variable {p : Config.Params} {s : State}

theorem fitsWidths_reset (p : Config.Params) (inputs : List Inputs) :
    FitsWidths p { State.reset with inputs := inputs } where
  fc_lt := Nat.two_pow_pos _
  sc_lt := Nat.two_pow_pos _
  gth_lt := Nat.two_pow_pos _
  ramp_lt := Nat.two_pow_pos _
  ledsel_lt := Nat.two_pow_pos _
  reqs_lt := nofun

theorem FitsWidths.beginCycle (hs : FitsWidths p s) : FitsWidths p (beginCycle s) :=
  { hs with reqs_lt := by simpa [State.requests] using hs.reqs_lt }

theorem FitsWidths.resetRegs (hs : FitsWidths p s) : FitsWidths p (resetRegs s) where
  fc_lt := Nat.two_pow_pos _
  sc_lt := Nat.two_pow_pos _
  gth_lt := Nat.two_pow_pos _
  ramp_lt := Nat.two_pow_pos _
  ledsel_lt := Nat.two_pow_pos _
  reqs_lt := hs.reqs_lt

theorem FitsWidths.setFc {v : Nat} (hs : FitsWidths p s) (hv : v < 2 ^ p.fcWidth) :
    FitsWidths p (s.setFc v) := { hs with fc_lt := hv }

theorem FitsWidths.setSc {v : Nat} (hs : FitsWidths p s) (hv : v < 2 ^ p.scWidth) :
    FitsWidths p (s.setSc v) := { hs with sc_lt := hv }

theorem FitsWidths.setOn (hs : FitsWidths p s) (v : Bool) : FitsWidths p (s.setOn v) := { hs with }

theorem FitsWidths.setledOp {idx : Nat} (hs : FitsWidths p s) (lit : Bool)
    (hidx : idx < 2 ^ p.ledIdxWidth) : FitsWidths p (setledOp idx lit s) where
  fc_lt := hs.fc_lt
  sc_lt := hs.sc_lt
  gth_lt := hs.gth_lt
  ramp_lt := hs.ramp_lt
  ledsel_lt := hs.ledsel_lt
  reqs_lt := by
    intro r hr
    rw [State.requests, setledOp_eq, ← List.append_assoc, List.mem_append, List.mem_singleton] at hr
    obtain hr | rfl := hr
    · exact hs.reqs_lt r hr
    · exact hidx

theorem FitsWidths.applyOp {idx : Nat} (hs : FitsWidths p s) (t : Nat)
    (hidx : idx < 2 ^ p.ledIdxWidth) : FitsWidths p (applyOp p idx t s) := by
  obtain ⟨-, -, e⟩ | ⟨-, -, e⟩ | ⟨-, -, -, e⟩ | ⟨-, -, -, e⟩ | ⟨-, -, e⟩ := applyOp_cases p idx t s
  · rw [e]; exact hs
  · rw [e]; exact (hs.setOn true).setledOp true hidx
  · rw [e]; exact hs
  · rw [e]; exact (hs.setOn false).setledOp false hidx
  · rw [e]; exact hs.setFc (Nat.two_pow_pos _)

theorem FitsWidths.passGate (hs : FitsWidths p s) : FitsWidths p (passGate p s) :=
  { hs with sc_lt := Nat.two_pow_pos _, ramp_lt := rampPlusDir_lt p _ _ }

theorem FitsWidths.stepOp (hs : FitsWidths p s) : FitsWidths p (stepOp p s) := by
  obtain ⟨-, e⟩ | ⟨-, e⟩ | ⟨-, e⟩ := stepOp_cases p s
  · rw [e]; exact hs
  · rw [e]; exact hs.applyOp s.gth hs.ledsel_lt
  · have ha := hs.applyOp s.ramp hs.ledsel_lt
    obtain ⟨-, e'⟩ | ⟨-, e'⟩ := pulseIter_cases p s
    · rw [e, e']; exact ha
    · rw [e, e']; exact ha.passGate

theorem FitsWidths.glowStart {led t : Nat} (hs : FitsWidths p s) (hled : led < 2 ^ p.ledIdxWidth)
    (ht : t < 2 ^ p.thWidth) : FitsWidths p (glowStart p led t s) := by
  obtain ⟨-, -, e⟩ | ⟨-, e⟩ := glowStart_cases p led t s
  · rw [e]; exact { hs with gth_lt := ht, ledsel_lt := hled }
  · rw [e]; exact hs

theorem FitsWidths.pulseStart {led : Nat} (hs : FitsWidths p s) (hled : led < 2 ^ p.ledIdxWidth) :
    FitsWidths p (pulseStart led s) := by
  obtain ⟨-, e⟩ | ⟨-, e⟩ := pulseStart_cases led s
  · rw [e]; exact { hs with ramp_lt := Nat.two_pow_pos _, ledsel_lt := hled }
  · rw [e]; exact hs

theorem FitsWidths.setledCommand {led : Nat} (hs : FitsWidths p s) (lit : Bool)
    (hled : led < 2 ^ p.ledIdxWidth) : FitsWidths p (setledCommand led lit s) := by
  obtain ⟨-, e⟩ | ⟨-, e⟩ := setledCommand_cases led lit s
  · rw [e]; exact hs.setledOp lit hled
  · rw [e]; exact hs

/-- Every well-formed operation keeps the widths. The set need not be legal. -/
theorem FitsWidths.execFor {i : Instr} {t : State} (hwf : i.wellFormed p = true) (hs : FitsWidths p s)
    (h : execFor p i s = .next t) : FitsWidths p t := by
  cases i with
  | fastTick => cases h; exact hs.setFc (Nat.mod_lt _ (Nat.two_pow_pos _))
  | slowTick => cases h; exact hs.setSc (Nat.mod_lt _ (Nat.two_pow_pos _))
  | step => cases h; exact hs.stepOp
  | nop => cases h; exact hs
  | rsvd => cases h; exact hs
  | glow led th =>
    cases h
    obtain ⟨hled, hth⟩ := (wellFormed_glow_iff p led th).mp hwf
    exact hs.glowStart hled hth
  | pulse led => cases h; exact hs.pulseStart ((wellFormed_pulse_iff p led).mp hwf)
  | setled led lit => cases h; exact hs.setledCommand lit ((wellFormed_setled_iff p led lit).mp hwf)

/-- Every cycle keeps the widths: what a cycle's inputs select is well formed. -/
theorem FitsWidths.stepFor {t : State} (hs : FitsWidths p s) (h : stepFor p s = .next t) :
    FitsWidths p t := by
  obtain ⟨-, e⟩ | ⟨-, e⟩ := stepFor_cases p s
  · rw [e] at h; cases h; exact hs.beginCycle.resetRegs
  · rw [e] at h
    exact runOps_keeps_of_mem
      (fun i hi u v hu hv => hu.execFor (decodeInputs_wellFormed p (nextInputs s) i hi) hv)
      hs.beginCycle h

end FitsWidths

/-- Settles O55: reset, each operation and each cycle, and the host's machine as the default one. -/
theorem everyStepKeepsTheWidths : Obligations.EveryStepKeepsTheWidths := by
  refine ⟨fitsWidths_reset, fun p i s t _ hwf hs h => hs.execFor hwf h,
    fun p s t _ hs h => hs.stepFor h, fun s t hs h => ?_⟩
  rw [step_eq] at h
  exact hs.stepFor h

end Sys2Proof.Machine

/-! SUPPORT. The obligations of spec/10_state.md: the register invariant of R22, the cached LED of R23, and the
registers that an operation does not read (R11, R18), with the lemmas they are assembled from. -/

/-! ### Equations of the operations -/

namespace Sys2Proof.Machine

/-- `APPLY` by its three comparisons (R70). -/
theorem applyOp_eq (p : Config.Params) (idx t : Nat) (s : State) :
    applyOp p idx t s =
      if s.fc < t then (if s.onState then s else setledOp idx true (s.setOn true))
      else if s.fc < p.period then (if s.onState then setledOp idx false (s.setOn false) else s)
      else s.setFc 0 := by
  simp only [applyOp, belowThreshold, belowPeriod, decide_eq_true_eq]

/-- One iteration of the pulse ramp by its gate (R88). -/
theorem pulseIter_eq (p : Config.Params) (s : State) :
    pulseIter p s =
      if p.pulseRate ≤ s.sc then passGate p (applyOp p s.ledsel s.ramp s)
      else applyOp p s.ledsel s.ramp s := by
  simp only [pulseIter, gateOpen, State.rampThreshold, applyOp_sc, decide_eq_true_eq]

theorem setledCommand_of_idle (led : Nat) (lit : Bool) {s : State} (h : s.mode = .idle) :
    setledCommand led lit s = setledOp led lit s := by
  obtain ⟨-, e⟩ | ⟨hrun, -⟩ := setledCommand_cases led lit s
  · exact e
  · exact absurd h hrun

theorem setledCommand_of_running (led : Nat) (lit : Bool) {s : State} (h : s.mode ≠ .idle) :
    setledCommand led lit s = s := by
  obtain ⟨hidle, -⟩ | ⟨-, e⟩ := setledCommand_cases led lit s
  · exact absurd hidle h
  · exact e

theorem glowStart_of_running (p : Config.Params) (led t : Nat) {s : State} (h : s.mode ≠ .idle) :
    glowStart p led t s = s := by
  obtain ⟨hidle, -⟩ | ⟨-, e⟩ := glowStart_cases p led t s
  · exact absurd hidle h
  · exact e

theorem pulseStart_of_running (led : Nat) {s : State} (h : s.mode ≠ .idle) : pulseStart led s = s := by
  obtain ⟨hidle, -⟩ | ⟨-, e⟩ := pulseStart_cases led s
  · exact absurd hidle h
  · exact e

/-- `APPLY` reads `FC` and `ON` alone: they fix the values it leaves in both and the requests it makes, and
through the requests what becomes of `LED_OUT`. -/
theorem applyOp_of_fc_onState (p : Config.Params) (idx t fc : Nat) (lit : Bool) :
    ∃ fc' lit' rs, ∀ s : State, s.fc = fc → s.onState = lit →
      applyOp p idx t s = { s with fc := fc', onState := lit', ledOut := writeLeds s.ledOut rs,
                                   cycleReqs := s.cycleReqs ++ rs } := by
  by_cases ht : fc < t
  · by_cases hon : lit = true
    · exact ⟨fc, lit, [], by
        rintro s rfl rfl; rw [applyOp_eq, if_pos ht, if_pos hon]; simp⟩
    · exact ⟨fc, true, [⟨idx, true⟩], by
        rintro s rfl rfl; rw [applyOp_eq, if_pos ht, if_neg hon]; rfl⟩
  · by_cases hp : fc < p.period
    · by_cases hon : lit = true
      · exact ⟨fc, false, [⟨idx, false⟩], by
          rintro s rfl rfl; rw [applyOp_eq, if_neg ht, if_pos hp, if_pos hon]; rfl⟩
      · exact ⟨fc, lit, [], by
          rintro s rfl rfl; rw [applyOp_eq, if_neg ht, if_pos hp, if_neg hon]; simp⟩
    · exact ⟨0, lit, [], by
        rintro s rfl rfl; rw [applyOp_eq, if_neg ht, if_neg hp]; simp [State.setFc]⟩

/-- Operations that keep a relation between two blocks keep it when they run one after another. -/
theorem runOps_simulates {ex : Executor} {R : State → State → Prop}
    (hop : ∀ i s t s', R s s' → ex i s = .next t → ∃ t', ex i s' = .next t' ∧ R t t')
    (ops : List Instr) {s t s' : State} (hR : R s s') (h : runOps ex ops s = .next t) :
    ∃ t', runOps ex ops s' = .next t' ∧ R t t' := by
  induction ops generalizing s s' with
  | nil => cases h; exact ⟨s', rfl, hR⟩
  | cons i ops ih =>
    rw [runOps_cons] at h
    cases hi : ex i s with
    | next u =>
      obtain ⟨u', hu', hRu⟩ := hop i s u s' hR hi
      rw [hi] at h
      rw [runOps_cons, hu']
      exact ih hRu h
    | fault r => exact nomatch r
    | refused r => rw [hi] at h; cases h

/-! ### The register invariant -/

/-- In a legal set the direction choice keeps `RAMP` within 0 to `PERIOD`: it climbs only below `PERIOD`, it
descends only above 0, and neither step wraps (R89, R90). -/
theorem chooseDir_rampPlusDir {p : Config.Params} {ramp : Nat} (d : Dir) (hlegal : p.legal = true)
    (hramp : ramp ≤ p.period) :
    (ramp < p.period ∧ chooseDir p d ramp = .up ∧
      rampPlusDir p ramp (chooseDir p d ramp) = ramp + 1) ∨
    (0 < ramp ∧ chooseDir p d ramp = .down ∧
      rampPlusDir p ramp (chooseDir p d ramp) = ramp - 1) := by
  obtain ⟨hperiod, -, -, -, -, hth, -⟩ := Laws.legal_bounds hlegal
  have hup (h : ramp < p.period) : rampPlusDir p ramp .up = ramp + 1 := by
    rw [rampPlusDir_up, Nat.mod_eq_of_lt (by omega)]
  have hdown (h : 0 < ramp) : rampPlusDir p ramp .down = ramp - 1 := by
    rw [rampPlusDir_down p h, Nat.mod_eq_of_lt (by omega)]
  rw [chooseDir_eq]
  split
  · split
    · next h => exact .inl ⟨h, rfl, hup h⟩
    · next h => exact .inr ⟨by omega, rfl, hdown (by omega)⟩
  · split
    · next h => exact .inr ⟨h, rfl, hdown h⟩
    · next h => exact .inl ⟨by omega, rfl, hup (by omega)⟩

theorem rampPlusDir_chooseDir_le {p : Config.Params} {ramp : Nat} (d : Dir) (hlegal : p.legal = true)
    (hramp : ramp ≤ p.period) : rampPlusDir p ramp (chooseDir p d ramp) ≤ p.period := by
  obtain ⟨h, -, e⟩ | ⟨-, -, e⟩ := chooseDir_rampPlusDir d hlegal hramp <;> omega

section RegsInv

variable {p : Config.Params} {s : State}

/-- Reset meets the invariant whatever the registers held before. -/
theorem regsInv_resetRegs (p : Config.Params) (s : State) : RegsInv p (resetRegs s) where
  gth_le := Nat.zero_le _
  ramp_le := Nat.zero_le _
  unset_ramp := nofun
  idle_zero := fun _ => ⟨rfl, rfl, rfl, rfl, rfl⟩
  glow_zero := nofun
  pulse_zero := nofun

theorem RegsInv.beginCycle (hs : RegsInv p s) : RegsInv p (beginCycle s) := { hs with }

theorem RegsInv.setFc (hs : RegsInv p s) (v : Nat) : RegsInv p (s.setFc v) := { hs with }

theorem RegsInv.setSc (hs : RegsInv p s) (v : Nat) : RegsInv p (s.setSc v) := { hs with }

theorem RegsInv.setledOp (hs : RegsInv p s) (idx : Nat) (lit : Bool) :
    RegsInv p (setledOp idx lit s) := { hs with }

/-- `APPLY` writes `ON`, which clause (f) holds at 0 in mode IDLE; no driver runs it there. -/
theorem RegsInv.applyOp (hs : RegsInv p s) (hrun : s.mode ≠ .idle) (idx t : Nat) :
    RegsInv p (applyOp p idx t s) := by
  rw [applyOp_frame]
  exact { hs with idle_zero := fun hidle => absurd hidle hrun }

theorem RegsInv.passGate (hs : RegsInv p s) (hlegal : p.legal = true) (hmode : s.mode = .pulse) :
    RegsInv p (passGate p s) where
  gth_le := hs.gth_le
  ramp_le := rampPlusDir_chooseDir_le s.dir hlegal hs.ramp_le
  unset_ramp := fun _ hdir => absurd hdir (chooseDir_ne_unset p s.dir s.ramp)
  idle_zero := fun hidle => absurd (hmode.symm.trans hidle) nofun
  glow_zero := fun hglow => absurd (hmode.symm.trans hglow) nofun
  pulse_zero := hs.pulse_zero

theorem RegsInv.stepOp (hs : RegsInv p s) (hlegal : p.legal = true) : RegsInv p (stepOp p s) := by
  obtain ⟨-, e⟩ | ⟨hmode, e⟩ | ⟨hmode, e⟩ := stepOp_cases p s
  · rw [e]; exact hs
  · rw [e]; exact hs.applyOp (by simp [hmode]) s.ledsel s.gth
  · have ha := hs.applyOp (by simp [hmode]) s.ledsel s.ramp
    obtain ⟨-, e'⟩ | ⟨-, e'⟩ := pulseIter_cases p s
    · rw [e, e']; exact ha
    · rw [e, e']; exact ha.passGate hlegal (by simp [hmode])

/-- A `GLOW` starts from mode IDLE, where clause (f) has `RAMP` and `DIR` at the 0 that clause (g) asks. -/
theorem RegsInv.glowStart (hs : RegsInv p s) (led t : Nat) : RegsInv p (glowStart p led t s) := by
  obtain ⟨hidle, ht, e⟩ | ⟨-, e⟩ := glowStart_cases p led t s
  · obtain ⟨-, hramp, hdir, -, -⟩ := hs.idle_zero hidle
    rw [e]
    exact ⟨ht, hs.ramp_le, nofun, nofun, fun _ => ⟨hramp, hdir⟩, nofun⟩
  · rw [e]; exact hs

/-- A `PULSE` starts from mode IDLE, where clause (f) has `GTH` at the 0 that clause (g) asks. -/
theorem RegsInv.pulseStart (hs : RegsInv p s) (led : Nat) : RegsInv p (pulseStart led s) := by
  obtain ⟨hidle, e⟩ | ⟨-, e⟩ := pulseStart_cases led s
  · obtain ⟨hgth, -, -, -, -⟩ := hs.idle_zero hidle
    rw [e]
    exact ⟨hs.gth_le, Nat.zero_le _, fun _ _ => rfl, nofun, nofun, fun _ => hgth⟩
  · rw [e]; exact hs

theorem RegsInv.setledCommand (hs : RegsInv p s) (led : Nat) (lit : Bool) :
    RegsInv p (setledCommand led lit s) := by
  obtain ⟨-, e⟩ | ⟨-, e⟩ := setledCommand_cases led lit s
  · rw [e]; exact hs.setledOp led lit
  · rw [e]; exact hs

/-- Every operation keeps the invariant; only the ramp's addition needs the set to be legal. -/
theorem RegsInv.execFor {i : Instr} {t : State} (hs : RegsInv p s) (hlegal : p.legal = true)
    (h : execFor p i s = .next t) : RegsInv p t := by
  cases i with
  | fastTick => cases h; exact hs.setFc _
  | slowTick => cases h; exact hs.setSc _
  | step => cases h; exact hs.stepOp hlegal
  | nop => cases h; exact hs
  | rsvd => cases h; exact hs
  | glow led th => cases h; exact hs.glowStart led th
  | pulse led => cases h; exact hs.pulseStart led
  | setled led lit => cases h; exact hs.setledCommand led lit

/-- Every cycle keeps the invariant. -/
theorem RegsInv.stepFor {t : State} (hs : RegsInv p s) (hlegal : p.legal = true)
    (h : stepFor p s = .next t) : RegsInv p t := by
  obtain ⟨-, e⟩ | ⟨-, e⟩ := stepFor_cases p s
  · rw [e] at h; cases h; exact regsInv_resetRegs p _
  · rw [e] at h
    exact runOps_keeps (fun i u v hu hv => hu.execFor hlegal hv) _ _ _ hs.beginCycle h

end RegsInv

/-- Settles O54: each operation, then the cycle; the host's machine is the default one. -/
theorem everyStepKeepsTheRegisterInvariant : Obligations.EveryStepKeepsTheRegisterInvariant := by
  refine ⟨fun i s t hs h => ?_, fun s t hs h => ?_, fun p i s t hlegal hs h => hs.execFor hlegal h,
    fun p s t hlegal hs h => hs.stepFor hlegal h⟩
  · rw [exec_eq] at h
    exact hs.execFor Laws.params_legal h
  · rw [step_eq] at h
    exact hs.stepFor Laws.params_legal h

/-- Settles O53: the reset state is what reset makes of itself. -/
theorem resetMeetsTheRegisterInvariant : Obligations.ResetMeetsTheRegisterInvariant :=
  fun p inputs => regsInv_resetRegs p { State.reset with inputs := inputs }

/-- Settles O56, by induction on how the state was reached. -/
theorem reachableStatesMeetTheRegisterInvariant :
    Obligations.ReachableStatesMeetTheRegisterInvariant := by
  intro p s hlegal hreach
  induction hreach with
  | reset inputs => exact resetMeetsTheRegisterInvariant p inputs
  | step _ hstep ih => exact ih.stepFor hlegal hstep

/-! ### The LED that `ON` caches -/

/-- An operation that leaves mode IDLE is a driver start: `ON` is 0 and `LED_OUT` is not touched (R124). -/
theorem execFor_driverStart {p : Config.Params} {i : Instr} {s t : State} (hidle : s.mode = .idle)
    (h : execFor p i s = .next t) (hrun : t.mode ≠ .idle) :
    t.onState = false ∧ t.ledOut = s.ledOut := by
  cases i with
  | fastTick => cases h; exact absurd hidle hrun
  | slowTick => cases h; exact absurd hidle hrun
  | step => cases h; rw [stepOp_of_idle p hidle] at hrun; exact absurd hidle hrun
  | nop => cases h; exact absurd hidle hrun
  | rsvd => cases h; exact absurd hidle hrun
  | setled led lit =>
    cases h; rw [setledCommand_of_idle led lit hidle] at hrun; exact absurd hidle hrun
  | glow led th =>
    cases h
    obtain ⟨-, -, e⟩ | ⟨-, e⟩ := glowStart_cases p led th s
    · rw [e]; exact ⟨rfl, rfl⟩
    · rw [e] at hrun; exact absurd hidle hrun
  | pulse led =>
    cases h
    obtain ⟨-, e⟩ | ⟨-, e⟩ := pulseStart_cases led s
    · rw [e]; exact ⟨rfl, rfl⟩
    · rw [e] at hrun; exact absurd hidle hrun

/-- Switching the driven LED writes its bit with what `ON` is set to. -/
theorem cacheAgrees_setledOp_setOn (s : State) (lit : Bool) :
    CacheAgrees (setledOp s.ledsel lit (s.setOn lit)) := by
  intro (hled : s.ledsel < Config.numLeds)
  have hbit : (writeLed s.ledOut s.ledsel lit).getLsbD s.ledsel = lit := by
    rw [writeLed_getLsbD s.ledOut s.ledsel lit hled, if_pos rfl]
  exact hbit.symm

theorem CacheAgrees.applyOp {s : State} (hs : CacheAgrees s) (p : Config.Params) (t : Nat) :
    CacheAgrees (applyOp p s.ledsel t s) := by
  obtain ⟨-, -, e⟩ | ⟨-, -, e⟩ | ⟨-, -, -, e⟩ | ⟨-, -, -, e⟩ | ⟨-, -, e⟩ := applyOp_cases p s.ledsel t s
  · rw [e]; exact hs
  · rw [e]; exact cacheAgrees_setledOp_setOn s true
  · rw [e]; exact hs
  · rw [e]; exact cacheAgrees_setledOp_setOn s false
  · rw [e]; exact hs

theorem CacheAgrees.stepOp {s : State} (hs : CacheAgrees s) (p : Config.Params) :
    CacheAgrees (stepOp p s) := by
  obtain ⟨-, e⟩ | ⟨-, e⟩ | ⟨-, e⟩ := stepOp_cases p s
  · rw [e]; exact hs
  · rw [e]; exact hs.applyOp p s.gth
  · obtain ⟨-, e'⟩ | ⟨-, e'⟩ := pulseIter_cases p s
    · rw [e, e']; exact hs.applyOp p s.ramp
    · rw [e, e']; exact hs.applyOp p s.ramp

/-- While a driver runs, `STEP` alone writes `ON` or `LED_OUT`, and it keeps their agreement. -/
theorem CacheAgrees.execFor {p : Config.Params} {i : Instr} {s t : State} (hs : CacheAgrees s)
    (hrun : s.mode ≠ .idle) (h : execFor p i s = .next t) : CacheAgrees t := by
  cases i with
  | fastTick => cases h; exact hs
  | slowTick => cases h; exact hs
  | step => cases h; exact hs.stepOp p
  | nop => cases h; exact hs
  | rsvd => cases h; exact hs
  | glow led th => cases h; rw [glowStart_of_running p led th hrun]; exact hs
  | pulse led => cases h; rw [pulseStart_of_running led hrun]; exact hs
  | setled led lit => cases h; rw [setledCommand_of_running led lit hrun]; exact hs

/-- Settles O57: at the start both sides are 0, and every operation from there keeps the agreement. -/
theorem onAgreesWithTheLedItCaches : Obligations.OnAgreesWithTheLedItCaches := by
  refine ⟨fun p i s t hidle h hrun hoff _ => ?_, fun p i s t hrun hs h => hs.execFor hrun h⟩
  obtain ⟨hon, hout⟩ := execFor_driverStart hidle h hrun
  rw [hon, hout, hoff]

/-! ### `LED_OUT` is not read -/

/-- The two states agree on everything but `LED_OUT`. -/
def SameButLedOut (s s' : State) : Prop := ∃ v, s' = s.setLedOut v

theorem applyOp_setLedOut (p : Config.Params) (idx t : Nat) (s : State) (v : LedPattern) :
    ∃ w, applyOp p idx t (s.setLedOut v) = (applyOp p idx t s).setLedOut w := by
  obtain ⟨fc', lit', rs, h⟩ := applyOp_of_fc_onState p idx t s.fc s.onState
  refine ⟨writeLeds v rs, ?_⟩
  rw [h s rfl rfl, h (s.setLedOut v) rfl rfl]
  rfl

theorem passGate_setLedOut (p : Config.Params) (s : State) (v : LedPattern) :
    passGate p (s.setLedOut v) = (passGate p s).setLedOut v := rfl

theorem pulseIter_setLedOut (p : Config.Params) (s : State) (v : LedPattern) :
    ∃ w, pulseIter p (s.setLedOut v) = (pulseIter p s).setLedOut w := by
  obtain ⟨w, hw⟩ := applyOp_setLedOut p s.ledsel s.ramp s v
  refine ⟨w, ?_⟩
  rw [pulseIter_eq, pulseIter_eq, setLedOut_ledsel, setLedOut_ramp, setLedOut_sc, hw,
    passGate_setLedOut, apply_ite (State.setLedOut · w)]

theorem stepOp_setLedOut (p : Config.Params) (s : State) (v : LedPattern) :
    ∃ w, stepOp p (s.setLedOut v) = (stepOp p s).setLedOut w := by
  cases hmode : s.mode with
  | idle => exact ⟨v, by rw [stepOp_of_idle p hmode, stepOp_of_idle p (by exact hmode)]⟩
  | glow =>
    rw [stepOp_of_glow p hmode, stepOp_of_glow p (by exact hmode)]
    exact applyOp_setLedOut p s.ledsel s.gth s v
  | pulse =>
    rw [stepOp_of_pulse p hmode, stepOp_of_pulse p (by exact hmode)]
    exact pulseIter_setLedOut p s v

theorem glowStart_setLedOut (p : Config.Params) (led t : Nat) (s : State) (v : LedPattern) :
    glowStart p led t (s.setLedOut v) = (glowStart p led t s).setLedOut v := by
  rw [glowStart, glowStart, apply_ite (State.setLedOut · v)]
  rfl

theorem pulseStart_setLedOut (led : Nat) (s : State) (v : LedPattern) :
    pulseStart led (s.setLedOut v) = (pulseStart led s).setLedOut v := by
  rw [pulseStart, pulseStart, apply_ite (State.setLedOut · v)]
  rfl

theorem setledCommand_setLedOut (led : Nat) (lit : Bool) (s : State) (v : LedPattern) :
    ∃ w, setledCommand led lit (s.setLedOut v) = (setledCommand led lit s).setLedOut w := by
  by_cases hmode : s.mode = .idle
  · refine ⟨writeLed v led lit, ?_⟩
    rw [setledCommand_of_idle led lit hmode, setledCommand_of_idle led lit (by exact hmode)]
    rfl
  · exact ⟨v, by rw [setledCommand_of_running led lit hmode,
      setledCommand_of_running led lit (by exact hmode)]⟩

theorem execFor_sameButLedOut (p : Config.Params) (i : Instr) (s t s' : State)
    (hss : SameButLedOut s s') (h : execFor p i s = .next t) :
    ∃ t', execFor p i s' = .next t' ∧ SameButLedOut t t' := by
  obtain ⟨v, rfl⟩ := hss
  cases i with
  | fastTick => cases h; exact ⟨_, rfl, v, rfl⟩
  | slowTick => cases h; exact ⟨_, rfl, v, rfl⟩
  | step => cases h; exact ⟨_, rfl, stepOp_setLedOut p s v⟩
  | nop => cases h; exact ⟨_, rfl, v, rfl⟩
  | rsvd => cases h; exact ⟨_, rfl, v, rfl⟩
  | glow led th => cases h; exact ⟨_, rfl, v, glowStart_setLedOut p led th s v⟩
  | pulse led => cases h; exact ⟨_, rfl, v, pulseStart_setLedOut led s v⟩
  | setled led lit => cases h; exact ⟨_, rfl, setledCommand_setLedOut led lit s v⟩

/-- Settles O27: both blocks take the same sample, reset clears `LED_OUT` in both, and every other cycle is a
list of operations that keep the rest alike. -/
theorem ledOutIsReadByNoOperation : Obligations.LedOutIsReadByNoOperation := by
  intro p s t v h
  obtain ⟨hrst, e⟩ | ⟨hrst, e⟩ := stepFor_cases p s
  · obtain ⟨-, e'⟩ | ⟨hrst', -⟩ := stepFor_cases p (s.setLedOut v)
    · rw [e] at h; cases h
      exact ⟨0, e'⟩
    · exact absurd (hrst.symm.trans hrst') nofun
  · obtain ⟨hrst', -⟩ | ⟨-, e'⟩ := stepFor_cases p (s.setLedOut v)
    · exact absurd (hrst'.symm.trans hrst) nofun
    · rw [e] at h
      obtain ⟨t', ht', w, rfl⟩ := runOps_simulates (R := SameButLedOut) (execFor_sameButLedOut p) _
        ⟨v, rfl⟩ h
      exact ⟨w, e'.trans ht'⟩

/-! ### `SC` outside mode PULSE -/

theorem applyOp_setSc (p : Config.Params) (idx t : Nat) (s : State) (v : Nat) :
    applyOp p idx t (s.setSc v) = (applyOp p idx t s).setSc v := by
  obtain ⟨fc', lit', rs, h⟩ := applyOp_of_fc_onState p idx t s.fc s.onState
  rw [h s rfl rfl, h (s.setSc v) rfl rfl]
  rfl

theorem stepOp_setSc (p : Config.Params) {s : State} (hmode : s.mode ≠ .pulse) (v : Nat) :
    stepOp p (s.setSc v) = (stepOp p s).setSc v := by
  cases hm : s.mode with
  | idle => rw [stepOp_of_idle p hm, stepOp_of_idle p (by exact hm)]
  | glow =>
    rw [stepOp_of_glow p hm, stepOp_of_glow p (by exact hm)]
    exact applyOp_setSc p s.ledsel s.gth s v
  | pulse => exact absurd hm hmode

theorem glowStart_setSc (p : Config.Params) (led t : Nat) (s : State) (v : Nat) :
    glowStart p led t (s.setSc v) = (glowStart p led t s).setSc v := by
  rw [glowStart, glowStart, apply_ite (State.setSc · v)]
  rfl

theorem pulseStart_setSc (led : Nat) (s : State) (v : Nat) :
    pulseStart led (s.setSc v) = (pulseStart led s).setSc v := by
  rw [pulseStart, pulseStart, apply_ite (State.setSc · v)]
  rfl

theorem setledCommand_setSc (led : Nat) (lit : Bool) (s : State) (v : Nat) :
    setledCommand led lit (s.setSc v) = (setledCommand led lit s).setSc v := by
  rw [setledCommand, setledCommand, apply_ite (State.setSc · v)]
  rfl

/-- Outside mode PULSE an operation other than `SLOW_TICK` passes `SC` through: given any value of it, it
leaves that value and does the same otherwise. -/
theorem execFor_setSc {p : Config.Params} {i : Instr} {s t : State} (hmode : s.mode ≠ .pulse)
    (hi : i ≠ .slowTick) (h : execFor p i s = .next t) (v : Nat) :
    execFor p i (s.setSc v) = .next (t.setSc v) := by
  cases i with
  | fastTick => cases h; rfl
  | slowTick => exact absurd rfl hi
  | step => cases h; rw [execFor_step, stepOp_setSc p hmode]
  | nop => cases h; rfl
  | rsvd => cases h; rfl
  | glow led th => cases h; rw [execFor_glow, glowStart_setSc]
  | pulse led => cases h; rw [execFor_pulse, pulseStart_setSc]
  | setled led lit => cases h; rw [execFor_setled, setledCommand_setSc]

/-- Outside mode PULSE only a slow tick changes `SC`: at the value `SC` has, passing it through changes
nothing. -/
theorem execFor_sc {p : Config.Params} {i : Instr} {s t : State} (hmode : s.mode ≠ .pulse)
    (hi : i ≠ .slowTick) (h : execFor p i s = .next t) : t.sc = s.sc := by
  have hpass : execFor p i s = .next (t.setSc s.sc) := execFor_setSc hmode hi h s.sc
  rw [h] at hpass
  injection hpass with e
  rw [e, setSc_sc]

/-- Settles O60: a slow tick writes `SC` from `SC` alone, and every other operation passes it through. -/
theorem scIsNeitherReadNorClearedOutsidePulse : Obligations.ScIsNeitherReadNorClearedOutsidePulse := by
  refine ⟨fun p i s t hmode hi h => execFor_sc hmode hi h, fun p i s t v hmode h => ?_⟩
  by_cases hi : i = .slowTick
  · subst hi; cases h
    exact ⟨bumpSc p v, rfl⟩
  · exact ⟨v, execFor_setSc hmode hi h v⟩

end Sys2Proof.Machine

/-! SUPPORT. The obligations of spec/20_memory.md: what a cycle runs and depends on (R30 to R32, R39), the request
ports (R33), and what the order of the ticks decides (R40, R42), with the lemmas they are assembled from. -/

/-! ### A cycle by the sample at the head of the schedule -/

namespace Sys2Proof.Machine

theorem nextInputs_of_cons {s : State} {inp : Inputs} {rest : List Inputs} (h : s.inputs = inp :: rest) :
    nextInputs s = inp := by
  rw [nextInputs, h, List.headD_cons]

/-- A sample with `rst` = 1 resets the registers, whatever else it holds (R122). -/
theorem stepFor_of_rst {p : Config.Params} {s : State} {inp : Inputs} {rest : List Inputs}
    (hin : s.inputs = inp :: rest) (hrst : inp.rst = true) :
    stepFor p s = .next (resetRegs (beginCycle s)) := by
  rw [stepFor, runCycle, nextInputs_of_cons hin, runInputs, if_pos hrst]

/-- A sample with `rst` = 0 runs the operations it selects (R39, R102). -/
theorem stepFor_of_not_rst {p : Config.Params} {s : State} {inp : Inputs} {rest : List Inputs}
    (hin : s.inputs = inp :: rest) (hrst : inp.rst = false) :
    stepFor p s = runOps (execFor p) (decodeInputs p inp) (beginCycle s) := by
  rw [stepFor, runCycle, nextInputs_of_cons hin, runInputs, if_neg (by simp [hrst])]

theorem runOps_singleton (ex : Executor) (i : Instr) (s : State) : runOps ex [i] s = ex i s := by
  rw [runOps_cons]
  cases ex i s with
  | next t => rfl
  | fault r => rfl
  | refused r => rfl

/-- A sample that selects one operation runs it after the bookkeeping. -/
theorem stepFor_of_decodeInputs_singleton {p : Config.Params} {s : State} {inp : Inputs}
    {rest : List Inputs} {i : Instr} (hin : s.inputs = inp :: rest) (hrst : inp.rst = false)
    (hdec : decodeInputs p inp = [i]) : stepFor p s = execFor p i (beginCycle s) := by
  rw [stepFor_of_not_rst hin hrst, hdec, runOps_singleton]

theorem beginCycle_of_cons {s : State} {inp : Inputs} {rest : List Inputs}
    (hin : s.inputs = inp :: rest) :
    beginCycle s = { s with inputs := rest, pastReqs := s.pastReqs ++ s.cycleReqs, cycleReqs := [],
                            cycle := s.cycle + 1 } := by
  rw [beginCycle, hin]; rfl

theorem code_inputs_rst (c : Code) : c.inputs.rst = false := by
  cases c with
  | ev v => rfl
  | cmd w => rfl

/-- The ports that present an encoded word select what the word decodes to (R31, R46). -/
theorem decodeInputs_code_inputs (p : Config.Params) (c : Code) : decodeInputs p c.inputs = decode p c := by
  cases c with
  | ev v => simp [decodeInputs, decode, decodeEv, Code.inputs, Inputs.quiet]
  | cmd w => simp [decodeInputs, decode, Code.inputs, Inputs.quiet]

/-- The host's step on an encoded word that selects one operation. -/
theorem step_of_code {s : State} {c : Code} {rest : List Inputs} {i : Instr}
    (hin : s.inputs = c.inputs :: rest) (hdec : decode Config.params c = [i]) :
    step s = exec i (beginCycle s) := by
  rw [step_eq, exec_eq]
  exact stepFor_of_decodeInputs_singleton hin (code_inputs_rst c)
    ((decodeInputs_code_inputs Config.params c).trans hdec)

/-- Settles O10: a sample of one operation runs it, an encoded word is such a sample, and the encoder's words
decode to their operation. -/
theorem stepRunsTheDecodedInstruction : Obligations.StepRunsTheDecodedInstruction := by
  refine ⟨fun s inp rest i hin hrst hdec => ?_, fun s nbits w i hdec => ⟨?_, ?_⟩,
    fun s rest i hwf hin => ?_, fun p s inp rest i hin hrst hdec => ?_⟩
  · rw [step_eq, exec_eq, ← beginCycle_of_cons hin]
    exact stepFor_of_decodeInputs_singleton hin hrst hdec
  · rw [decodeTableWord, hdec, List.head?_cons]
  · exact step_of_code (s := s.withFetchWord nbits w) rfl hdec
  · obtain ⟨hdec, -⟩ := decodeEncodeRoundTrip Config.params i Laws.params_legal hwf
    rw [← beginCycle_of_cons hin]
    exact step_of_code hin hdec
  · rw [← beginCycle_of_cons hin]
    exact stepFor_of_decodeInputs_singleton hin hrst hdec

/-! ### The model's own fields are not read -/

/-- The schedule, the past requests and the cycle number replaced: what R21 does not count as state. -/
def State.setBookkeeping (s : State) (inputs : List Inputs) (past : List LedReq) (cycle : Nat) : State :=
  { s with inputs := inputs, pastReqs := past, cycle := cycle }

/-- The two states agree on everything but the bookkeeping. -/
def SameButBookkeeping (s s' : State) : Prop :=
  ∃ inputs past cycle, s' = s.setBookkeeping inputs past cycle

theorem sameButBookkeeping_iff (s s' : State) :
    SameButBookkeeping s s' ↔ s.regs = s'.regs ∧ s.cycleReqs = s'.cycleReqs := by
  constructor
  · rintro ⟨inputs, past, cycle, rfl⟩
    exact ⟨rfl, rfl⟩
  · rintro ⟨hregs, hreqs⟩
    refine ⟨s'.inputs, s'.pastReqs, s'.cycle, ?_⟩
    cases s; cases s'; cases hregs; cases hreqs
    rfl

section Bookkeeping

variable (p : Config.Params) (s : State) (inputs : List Inputs) (past : List LedReq) (cycle : Nat)

theorem applyOp_setBookkeeping (idx t : Nat) :
    applyOp p idx t (s.setBookkeeping inputs past cycle) =
      (applyOp p idx t s).setBookkeeping inputs past cycle := by
  obtain ⟨fc', lit', rs, h⟩ := applyOp_of_fc_onState p idx t s.fc s.onState
  rw [h s rfl rfl, h (s.setBookkeeping inputs past cycle) rfl rfl]
  rfl

theorem pulseIter_setBookkeeping :
    pulseIter p (s.setBookkeeping inputs past cycle) =
      (pulseIter p s).setBookkeeping inputs past cycle := by
  rw [pulseIter_eq, pulseIter_eq, applyOp_setBookkeeping,
    apply_ite (State.setBookkeeping · inputs past cycle)]
  rfl

theorem stepOp_setBookkeeping :
    stepOp p (s.setBookkeeping inputs past cycle) = (stepOp p s).setBookkeeping inputs past cycle := by
  cases hmode : s.mode with
  | idle => rw [stepOp_of_idle p hmode, stepOp_of_idle p (by exact hmode)]
  | glow =>
    rw [stepOp_of_glow p hmode, stepOp_of_glow p (by exact hmode)]
    exact applyOp_setBookkeeping p s inputs past cycle s.ledsel s.gth
  | pulse =>
    rw [stepOp_of_pulse p hmode, stepOp_of_pulse p (by exact hmode)]
    exact pulseIter_setBookkeeping p s inputs past cycle

theorem glowStart_setBookkeeping (led t : Nat) :
    glowStart p led t (s.setBookkeeping inputs past cycle) =
      (glowStart p led t s).setBookkeeping inputs past cycle := by
  rw [glowStart, glowStart, apply_ite (State.setBookkeeping · inputs past cycle)]
  rfl

theorem pulseStart_setBookkeeping (led : Nat) :
    pulseStart led (s.setBookkeeping inputs past cycle) =
      (pulseStart led s).setBookkeeping inputs past cycle := by
  rw [pulseStart, pulseStart, apply_ite (State.setBookkeeping · inputs past cycle)]
  rfl

theorem setledCommand_setBookkeeping (led : Nat) (lit : Bool) :
    setledCommand led lit (s.setBookkeeping inputs past cycle) =
      (setledCommand led lit s).setBookkeeping inputs past cycle := by
  rw [setledCommand, setledCommand, apply_ite (State.setBookkeeping · inputs past cycle)]
  rfl

end Bookkeeping

/-- No operation reads the bookkeeping, and each passes it through. -/
theorem execFor_sameButBookkeeping (p : Config.Params) (i : Instr) (s t s' : State)
    (hss : SameButBookkeeping s s') (h : execFor p i s = .next t) :
    ∃ t', execFor p i s' = .next t' ∧ SameButBookkeeping t t' := by
  obtain ⟨inputs, past, cycle, rfl⟩ := hss
  refine ⟨t.setBookkeeping inputs past cycle, ?_, inputs, past, cycle, rfl⟩
  cases i with
  | fastTick => cases h; rfl
  | slowTick => cases h; rfl
  | step => cases h; rw [execFor_step, stepOp_setBookkeeping]
  | nop => cases h; rfl
  | rsvd => cases h; rfl
  | glow led th => cases h; rw [execFor_glow, glowStart_setBookkeeping]
  | pulse led => cases h; rw [execFor_pulse, pulseStart_setBookkeeping]
  | setled led lit => cases h; rw [execFor_setled, setledCommand_setBookkeeping]

/-- Samples that agree on what the block looks at select the same operations (R31). -/
theorem decodeInputs_of_sameSample (p : Config.Params) {a b : Inputs} (h : SameSample a b)
    (hrst : a.rst = false) : decodeInputs p a = decodeInputs p b := by
  obtain ⟨hfast, hslow, hstep, hvalid, hcmd⟩ := h.right hrst
  cases hv : a.cmdValid with
  | false => simp [decodeInputs, hfast, hslow, hstep, ← hvalid, hv]
  | true => simp [decodeInputs, hfast, hslow, hstep, ← hvalid, hv, hcmd hv]

/-- Settles O17: after the bookkeeping the two blocks differ in nothing that is read, reset writes the same
registers in both, and otherwise both run the same operations. -/
theorem cycleDependsOnRegistersAndSampleOnly : Obligations.CycleDependsOnRegistersAndSampleOnly := by
  intro p s s' t t' inp inp' rest rest' hin hin' hregs hsame h h'
  have hrst : inp.rst = inp'.rst := hsame.left
  cases hr : inp.rst with
  | true =>
    rw [stepFor_of_rst hin hr] at h
    rw [stepFor_of_rst hin' (hrst.symm.trans hr)] at h'
    cases h; cases h'
    exact ⟨rfl, rfl⟩
  | false =>
    have hbegin : SameButBookkeeping (beginCycle s) (beginCycle s') :=
      (sameButBookkeeping_iff _ _).mpr ⟨hregs, rfl⟩
    rw [stepFor_of_not_rst hin hr] at h
    rw [stepFor_of_not_rst hin' (hrst.symm.trans hr), ← decodeInputs_of_sameSample p hsame hr] at h'
    obtain ⟨u, hu, htu⟩ := runOps_simulates (execFor_sameButBookkeeping p) _ hbegin h
    rw [h'] at hu; cases hu
    exact (sameButBookkeeping_iff t t').mp htu

/-! ### The request ports -/

theorem ledReqValid_iff (s : State) : s.ledReqValid = true ↔ s.cycleReqs ≠ [] := by
  simp [State.ledReqValid]

theorem ledReqIdx_of_cons (p : Config.Params) {s : State} {r : LedReq} {rs : List LedReq}
    (h : s.cycleReqs = r :: rs) : s.ledReqIdx p = r.idx := by
  rw [State.ledReqIdx, h]

theorem ledReqOn_of_cons {s : State} {r : LedReq} {rs : List LedReq}
    (h : s.cycleReqs = r :: rs) : s.ledReqOn = r.lit := by
  rw [State.ledReqOn, h]

/-- A cycle's requests join the end of the request list (R33). -/
theorem stepFor_requests {p : Config.Params} {s t : State} (h : stepFor p s = .next t) :
    t.requests = s.requests ++ t.cycleReqs := by
  obtain ⟨-, hpast, -⟩ := stepFor_bookkeeping h
  rw [State.requests, hpast]

/-- Settles O18: the request list has grown by exactly the requests that the ports show. -/
theorem requestPortsShowTheCyclesRequest : Obligations.RequestPortsShowTheCyclesRequest := by
  intro p s t h
  have hgrow := stepFor_requests h
  refine ⟨?_, fun r hr => ?_⟩
  · rw [ledReqValid_iff, hgrow, ne_eq, ne_eq, List.append_right_eq_self]
  · have hone : t.cycleReqs = [r] := List.append_cancel_left (hgrow.symm.trans hr)
    exact ⟨ledReqIdx_of_cons p hone, ledReqOn_of_cons hone⟩

/-! ### The order of the ticks -/

theorem fastTickOp_slowTickOp_comm (p : Config.Params) (s : State) :
    slowTickOp p (fastTickOp p s) = fastTickOp p (slowTickOp p s) := rfl

/-- Settles O21: the ticks write different registers. -/
theorem ticksCommute : Obligations.TicksCommute := by
  intro p s
  refine ⟨slowTickOp p (fastTickOp p s), rfl, ?_⟩
  rw [fastTickOp_slowTickOp_comm]
  rfl

theorem bumpFc_of_lt {p : Config.Params} {v : Nat} (h : v + 1 < 2 ^ p.fcWidth) : bumpFc p v = v + 1 :=
  Nat.mod_eq_of_lt h

theorem bumpSc_of_lt {p : Config.Params} {v : Nat} (h : v + p.slowInc < 2 ^ p.scWidth) :
    bumpSc p v = v + p.slowInc :=
  Nat.mod_eq_of_lt h

/-- Region C of `APPLY`: at `PERIOD` or beyond, and not below the threshold, it wraps `FC` and does nothing
else (R74). -/
theorem applyOp_of_wrap {p : Config.Params} {t : Nat} {s : State} (idx : Nat) (ht : t ≤ s.fc)
    (hfc : p.period ≤ s.fc) : applyOp p idx t s = s.setFc 0 := by
  rw [applyOp_eq, if_neg (by omega), if_neg (by omega)]

/-- How far `FC` has gone beyond `PERIOD` is lost in the wrap. -/
theorem applyOp_setFc_of_wrap {p : Config.Params} {t v : Nat} {s : State} (idx : Nat) (ht : t ≤ p.period)
    (hfc : p.period ≤ s.fc) (hv : p.period ≤ v) : applyOp p idx t (s.setFc v) = applyOp p idx t s := by
  rw [applyOp_of_wrap idx (ht.trans hfc) hfc, applyOp_of_wrap idx (ht.trans hv) hv]
  rfl

/-- While a driver runs, its threshold is at most `PERIOD` by R22, so the next poll wraps `FC` from anywhere
at `PERIOD` or beyond. -/
theorem stepOp_setFc_of_wrap {p : Config.Params} {s : State} {v : Nat} (hs : RegsInv p s)
    (hrun : s.mode ≠ .idle) (hfc : p.period ≤ s.fc) (hv : p.period ≤ v) :
    stepOp p (s.setFc v) = stepOp p s := by
  cases hmode : s.mode with
  | idle => exact absurd hmode hrun
  | glow =>
    rw [stepOp_of_glow p hmode, stepOp_of_glow p (by exact hmode)]
    exact applyOp_setFc_of_wrap s.ledsel hs.gth_le hfc hv
  | pulse =>
    rw [stepOp_of_pulse p hmode, stepOp_of_pulse p (by exact hmode), pulseIter_eq, pulseIter_eq,
      setFc_sc, setFc_ledsel, setFc_ramp, applyOp_setFc_of_wrap s.ledsel hs.ramp_le hfc hv]

/-- A passed gate clears `SC` without looking at it again (R90). -/
theorem passGate_setSc (p : Config.Params) (s : State) (v : Nat) :
    passGate p (s.setSc v) = passGate p s := rfl

/-- How far `SC` has gone beyond the gate is lost in the consuming reset (R90). -/
theorem stepOp_setSc_of_gate {p : Config.Params} {s : State} {v : Nat} (hmode : s.mode = .pulse)
    (hsc : p.pulseRate ≤ s.sc) (hv : p.pulseRate ≤ v) : stepOp p (s.setSc v) = stepOp p s := by
  rw [stepOp_of_pulse p hmode, stepOp_of_pulse p (by exact hmode), pulseIter_eq, pulseIter_eq,
    if_pos hsc, if_pos (by exact hv), applyOp_setSc, passGate_setSc]
  rfl

/-- Settles O22: short of an overflow the tick leaves its counter beyond the bound that the `STEP` consumes
it at. -/
theorem tickBeforeWrapOrGateIsAbsorbed : Obligations.TickBeforeWrapOrGateIsAbsorbed := by
  refine ⟨fun p s hs hrun hfc hroom => ?_, fun p s hmode hsc hroom => ?_⟩
  · rw [runOps_cons, execFor_fastTick, andThen_next, runOps_singleton, execFor_step, execFor_step,
      fastTickOp, bumpFc_of_lt hroom, stepOp_setFc_of_wrap hs hrun hfc (by omega)]
  · rw [runOps_cons, execFor_slowTick, andThen_next, runOps_singleton, execFor_step, execFor_step,
      slowTickOp, bumpSc_of_lt hroom, stepOp_setSc_of_gate hmode hsc (by omega)]

end Sys2Proof.Machine

/-! SUPPORT. The obligations of spec/30_encoding.md: the fields of a command word (R48 to R52), the event
vector (R46), and the inputs that present a listing's cycle (R54), with the lemmas they are assembled from. -/

/-! ### The command a word stands for, by its `op` field -/

namespace Sys2Proof

section CommandWord

variable {p : Config.Params} {v w : Nat}

theorem decodeCmd_of_op_nop (h : cmdOp p w = 0) : decodeCmd p w = .nop := by
  rw [decodeCmd, h]; rfl

theorem decodeCmd_of_op_glow (h : cmdOp p w = 1) : decodeCmd p w = .glow (cmdLed p w) (cmdArg p w) := by
  rw [decodeCmd, h]; rfl

theorem decodeCmd_of_op_pulse (h : cmdOp p w = 2) : decodeCmd p w = .pulse (cmdLed p w) := by
  rw [decodeCmd, h]; rfl

theorem decodeCmd_of_op_setled (h : cmdOp p w = 3) : decodeCmd p w = .setled (cmdLed p w) (cmdOn w) := by
  rw [decodeCmd, h]; rfl

/-- The four codes from 4 on are reserved (R51). -/
theorem decodeCmd_of_op_rsvd (h : 4 ≤ cmdOp p w) : decodeCmd p w = .rsvd := by
  obtain ⟨n, hn⟩ := Nat.exists_eq_add_of_le' h
  rw [decodeCmd, hn]; rfl

/-- The decoder looks at a word through its four fields only. -/
theorem decodeCmd_congr (hop : cmdOp p v = cmdOp p w) (hled : cmdLed p v = cmdLed p w)
    (harg : cmdArg p v = cmdArg p w) (hon : cmdOn v = cmdOn w) : decodeCmd p v = decodeCmd p w := by
  rw [decodeCmd, decodeCmd, hop, hled, harg, hon]

theorem cmdOn_eq (w : Nat) : cmdOn w = decide (w % 2 = 1) := Nat.testBit_zero w

/-- Above the fields `led` and `arg`, a word of `CMD_WIDTH` bits holds `op` and nothing else (R47). -/
theorem cmdOp_of_lt (h : w < 2 ^ p.cmdWidth) : cmdOp p w = w / 2 ^ (p.ledIdxWidth + p.thWidth) := by
  rw [Config.Params.cmdWidth, Nat.add_assoc, Nat.pow_add, Nat.mul_comm] at h
  exact Nat.mod_eq_of_lt (Nat.div_lt_of_lt_mul h)

/-! ### Fields that are ignored -/

/-- `op` and `led` stand above `arg`. -/
theorem cmdOp_of_div_eq (h : w / 2 ^ p.thWidth = v / 2 ^ p.thWidth) : cmdOp p w = cmdOp p v := by
  rw [cmdOp_eq, cmdOp_eq, h]

theorem cmdLed_of_div_eq (h : w / 2 ^ p.thWidth = v / 2 ^ p.thWidth) : cmdLed p w = cmdLed p v := by
  rw [cmdLed, cmdLed, h]

/-! ### Numbers beyond `CMD_WIDTH` bits -/

theorem cmdOp_mod_cmdWidth : cmdOp p (w % 2 ^ p.cmdWidth) = cmdOp p w := by
  rw [cmdOp, cmdOp, Config.Params.cmdWidth, Nat.add_assoc, Nat.add_comm, Nat.pow_add,
    Nat.mod_mul_right_div_self, Nat.mod_mod]

theorem cmdLed_mod_cmdWidth : cmdLed p (w % 2 ^ p.cmdWidth) = cmdLed p w := by
  rw [cmdLed, cmdLed, Config.Params.cmdWidth, Nat.add_comm, Nat.pow_add, Nat.mod_mul_right_div_self,
    Nat.mod_mod_of_dvd _ (Nat.pow_dvd_pow 2 (Nat.le_add_left _ _))]

theorem cmdArg_mod_cmdWidth : cmdArg p (w % 2 ^ p.cmdWidth) = cmdArg p w :=
  Nat.mod_mod_of_dvd w (Nat.pow_dvd_pow 2 (Nat.le_add_left _ _))

theorem cmdOn_mod_cmdWidth : cmdOn (w % 2 ^ p.cmdWidth) = cmdOn w := by
  have hdvd : 2 ∣ 2 ^ p.cmdWidth :=
    dvd_pow_self 2 (by simp [Config.Params.cmdWidth, Config.opWidth])
  rw [cmdOn_eq, cmdOn_eq, Nat.mod_mod_of_dvd w hdvd]

end CommandWord

/-- Settles O3: the default word by the value of its `op` field, the assembled word by reading its fields
back. -/
theorem commandWordFieldsSelectAndFillTheCommand :
    Obligations.CommandWordFieldsSelectAndFillTheCommand := by
  refine ⟨fun w hw => ?_, fun p op led arg hlegal ho hl ha => ?_⟩
  · have hop : cmdOp Config.params w = w / 8192 := cmdOp_of_lt hw
    have hon : decide (w % 2 = 1) = cmdOn w := (cmdOn_eq w).symm
    rw [← hop, hon]
    exact ⟨decodeCmd_of_op_nop, decodeCmd_of_op_glow, decodeCmd_of_op_pulse, decodeCmd_of_op_setled,
      decodeCmd_of_op_rsvd⟩
  · have hword : op * 2 ^ (p.ledIdxWidth + p.thWidth) + led * 2 ^ p.thWidth + arg =
        cmdWordOf p op led arg := by
      rw [cmdWordOf, Nat.pow_add, Nat.add_mul, Nat.mul_assoc]
    rw [hword]
    exact decodeCmd_cmdWordOf (Laws.legal_thWidth_pos hlegal) ho hl ha

/-- Settles O4: the decoder's answer for an `op` names only the fields that `op` uses. -/
theorem ignoredFieldsHaveNoEffect : Obligations.IgnoredFieldsHaveNoEffect := by
  intro p v w _ hv hw
  dsimp only
  rw [← cmdOp_of_lt hv, ← cmdOp_of_lt hw]
  refine ⟨fun hop hop' => ?_, fun hop h => ?_, fun hop h hbit => ?_, fun hop hop' => ?_⟩
  · rw [decodeCmd_of_op_nop hop, decodeCmd_of_op_nop hop']
  · rw [decodeCmd_of_op_pulse hop, decodeCmd_of_op_pulse ((cmdOp_of_div_eq h).trans hop),
      cmdLed_of_div_eq h]
  · rw [decodeCmd_of_op_setled hop, decodeCmd_of_op_setled ((cmdOp_of_div_eq h).trans hop),
      cmdLed_of_div_eq h, cmdOn_eq, cmdOn_eq, hbit]
  · rw [decodeCmd_of_op_rsvd hop, decodeCmd_of_op_rsvd hop']

/-- Settles O5: the decoder's laws, and that no field reaches beyond `CMD_WIDTH` bits. -/
theorem everyWordDecodesToAWellFormedCommand : Obligations.EveryWordDecodesToAWellFormedCommand :=
  fun p w => ⟨decodeCmd_isCommand p w, decodeCmd_wellFormed p w,
    decodeCmd_congr cmdOp_mod_cmdWidth cmdLed_mod_cmdWidth cmdArg_mod_cmdWidth cmdOn_mod_cmdWidth⟩

/-- Settles O2, by running the decoder on each word. -/
theorem wordsWrittenOutInTheSpecDecode : Obligations.WordsWrittenOutInTheSpecDecode := by
  unfold Obligations.WordsWrittenOutInTheSpecDecode
  decide

/-! ### The event vector -/

theorem mem_decodeEv_iff (v : EvVec) (i : Instr) :
    i ∈ decodeEv v ↔ v.getLsbD 0 = true ∧ i = .fastTick ∨ v.getLsbD 1 = true ∧ i = .slowTick ∨
      v.getLsbD 2 = true ∧ i = .step := by
  simp only [decodeEv, List.mem_append, List.mem_ite_nil_right, List.mem_singleton, or_assoc]

/-- A vector selects a part of the three events, in their order. -/
theorem decodeEv_sublist (v : EvVec) : (decodeEv v).Sublist [.fastTick, .slowTick, .step] := by
  have hbit (b : Bool) (i : Instr) : (if b then [i] else []).Sublist [i] := by
    cases b with
    | false => exact List.nil_sublist [i]
    | true => exact List.Sublist.refl [i]
  exact ((hbit _ _).append (hbit _ _)).append (hbit _ _)

theorem decodeEv_nodup (v : EvVec) : (decodeEv v).Nodup := (decodeEv_sublist v).nodup (by decide)

/-- The strobes are the bits of the event vector (R31, R46). -/
theorem getLsbD_ev (inp : Inputs) :
    inp.ev.getLsbD 0 = inp.fastTick ∧ inp.ev.getLsbD 1 = inp.slowTick ∧
      inp.ev.getLsbD 2 = inp.stepEn := by
  simp only [Inputs.ev, BitVec.getLsbD_append, BitVec.getLsbD_ofBool]
  exact ⟨by simp, by simp, by simp⟩

/-- Settles O6: membership bit by bit, and the vector's operations as a part of the three events. -/
theorem eventVectorBitsSelectIndependently : Obligations.EventVectorBitsSelectIndependently := by
  refine ⟨fun v => ⟨?_, ?_, ?_, fun i hi => ?_, decodeEv_nodup v⟩, by decide, getLsbD_ev⟩
  · simp [mem_decodeEv_iff]
  · simp [mem_decodeEv_iff]
  · simp [mem_decodeEv_iff]
  · simpa using (decodeEv_sublist v).subset hi

/-! ### The inputs that present a cycle -/

/-- A cycle's operations, put in the order in which the block runs them (R102). -/
def inRunOrder (ops : List Instr) : List Instr :=
  List.replicate (ops.count .fastTick) .fastTick ++ List.replicate (ops.count .slowTick) .slowTick ++
    ops.filter Instr.isCommand ++ List.replicate (ops.count .step) .step

theorem count_filter_isCommand (i : Instr) (ops : List Instr) :
    (ops.filter Instr.isCommand).count i = if i.isCommand then ops.count i else 0 := by
  split
  next h => exact List.count_filter h
  next h => exact List.count_eq_zero.mpr fun hi => h (List.of_mem_filter hi)

/-- Each event is counted in its own part of the run order, each command in the filtered part. -/
theorem inRunOrder_perm (ops : List Instr) : (inRunOrder ops).Perm ops := by
  refine List.perm_iff_count.mpr fun i => ?_
  simp only [inRunOrder, List.count_append, List.count_replicate, count_filter_isCommand]
  cases i <;> simp [Instr.isCommand]

theorem cycleRank_of_isCommand {i : Instr} (h : i.isCommand = true) : Machine.cycleRank i = 2 := by
  cases i with
  | fastTick => cases h
  | slowTick => cases h
  | step => cases h
  | nop => rfl
  | glow led t => rfl
  | pulse led => rfl
  | setled led lit => rfl
  | rsvd => rfl

theorem map_cycleRank_inRunOrder (ops : List Instr) :
    (inRunOrder ops).map Machine.cycleRank =
      List.replicate (ops.count .fastTick) 0 ++ List.replicate (ops.count .slowTick) 1 ++
        List.replicate (ops.filter Instr.isCommand).length 2 ++ List.replicate (ops.count .step) 3 := by
  have hcommands : (ops.filter Instr.isCommand).map Machine.cycleRank =
      List.replicate (ops.filter Instr.isCommand).length 2 :=
    List.map_eq_replicate_iff.mpr fun i hi => cycleRank_of_isCommand (List.of_mem_filter hi)
  simp only [inRunOrder, List.map_append, List.map_replicate, hcommands, Machine.cycleRank]

theorem inRunOrder_pairwise (ops : List Instr) :
    (inRunOrder ops).Pairwise (fun a b => Machine.cycleRank a ≤ Machine.cycleRank b) := by
  rw [← List.pairwise_map (R := (· ≤ ·)), map_cycleRank_inRunOrder]
  simp only [List.pairwise_append, List.pairwise_replicate, List.mem_append, List.mem_replicate]
  grind

theorem commandWords_cons_of_ev {p : Config.Params} {i : Instr} {v : EvVec} (h : encode p i = .ev v)
    (ops : List Instr) : commandWords p (i :: ops) = commandWords p ops := by
  rw [commandWords, h]

theorem commandWords_cons_of_cmd {p : Config.Params} {i : Instr} {w : Nat} (h : encode p i = .cmd w)
    (ops : List Instr) : commandWords p (i :: ops) = w :: commandWords p ops := by
  rw [commandWords, h]

/-- Well-formed operations give the words of their commands, one each and in their order. -/
theorem map_decodeCmd_commandWords {p : Config.Params} (hlegal : p.legal = true) {ops : List Instr}
    (hwf : ∀ i ∈ ops, i.wellFormed p = true) :
    (commandWords p ops).map (decodeCmd p) = ops.filter Instr.isCommand := by
  have hw := Laws.legal_thWidth_pos hlegal
  induction ops with
  | nil => rfl
  | cons i ops ih =>
    obtain ⟨hi, hops⟩ := List.forall_mem_cons.mp hwf
    cases hcmd : i.isCommand with
    | false =>
      obtain ⟨v, henc, -⟩ := encode_event p hcmd
      rw [commandWords_cons_of_ev henc, ih hops, List.filter_cons_of_neg (by simp [hcmd])]
    | true =>
      obtain ⟨op, led, arg, ho, hl, ha, henc, hof⟩ := encode_command hw hcmd hi
      rw [commandWords_cons_of_cmd henc, List.map_cons, ih hops, List.filter_cons_of_pos hcmd,
        decodeCmd_cmdWordOf hw ho hl ha, hof]

/-- One port that is driven when there is a word on it carries a list of at most one word. -/
theorem ite_nonempty_headD_eq_map (f : Nat → Instr) {ws : List Nat} (h : ws.length ≤ 1) :
    (if !ws.isEmpty then [f (ws.headD 0)] else []) = ws.map f := by
  cases ws with
  | nil => rfl
  | cons w ws =>
    obtain rfl : ws = [] := List.eq_nil_of_length_eq_zero (by simpa using h)
    rfl

/-- One strobe carries an event that stands in the cycle at most once. -/
theorem ite_contains_eq_replicate {e : Instr} {ops : List Instr} (h : ops.count e ≤ 1) :
    (if ops.contains e then [e] else []) = List.replicate (ops.count e) e := by
  by_cases he : e ∈ ops
  · have hone : ops.count e = 1 := Nat.le_antisymm h (List.one_le_count_iff.mpr he)
    rw [if_pos (List.contains_iff_mem.mpr he), hone]; rfl
  · rw [if_neg (mt List.contains_iff_mem.mp he), List.count_eq_zero.mpr he]; rfl

theorem wellFormedCycle_iff (p : Config.Params) (ops : List Instr) :
    wellFormedCycle p ops = true ↔
      (∀ i ∈ ops, i.wellFormed p = true) ∧ (ops.filter Instr.isCommand).length ≤ 1 ∧
        ops.count .fastTick ≤ 1 ∧ ops.count .slowTick ≤ 1 ∧ ops.count .step ≤ 1 := by
  simp only [wellFormedCycle, atMostOneCommand, eachEventAtMostOnce, Bool.and_eq_true, List.all_eq_true,
    decide_eq_true_eq, and_assoc]

/-- The ports that present a well-formed cycle select its operations in the order in which they run. -/
theorem decodeInputs_presentCycle {p : Config.Params} {ops : List Instr} (hlegal : p.legal = true)
    (hcycle : wellFormedCycle p ops = true) : decodeInputs p (presentCycle p ops) = inRunOrder ops := by
  obtain ⟨hwf, hcommand, hfast, hslow, hstep⟩ := (wellFormedCycle_iff p ops).mp hcycle
  have hwords := map_decodeCmd_commandWords hlegal hwf
  have hone : (commandWords p ops).length ≤ 1 := by rwa [← List.length_map, hwords]
  rw [decodeInputs, presentCycle, ite_contains_eq_replicate hfast, ite_contains_eq_replicate hslow,
    ite_contains_eq_replicate hstep, ite_nonempty_headD_eq_map (decodeCmd p) hone, hwords, inRunOrder]

/-- Settles O7: what the ports select is the cycle in run order, a sorted permutation of it. -/
theorem presentedCycleSelectsItsOperationsInOrder :
    Obligations.PresentedCycleSelectsItsOperationsInOrder := by
  intro p ops hlegal hcycle
  rw [decodeInputs_presentCycle hlegal hcycle]
  exact ⟨inRunOrder_perm ops, inRunOrder_pairwise ops⟩

end Sys2Proof

/-! SUPPORT. The obligations of spec/40_tick_source.md: what each of the two ticks does (R60, R61). -/

namespace Sys2Proof.Machine

/-- R60 as an equation of states. -/
theorem fastTickOp_eq (p : Config.Params) (s : State) :
    fastTickOp p s = { s with fc := (s.fc + 1) % 2 ^ p.fcWidth } := rfl

/-- R61 as an equation of states. -/
theorem slowTickOp_eq (p : Config.Params) (s : State) :
    slowTickOp p s = { s with sc := (s.sc + p.slowInc) % 2 ^ p.scWidth } := rfl

/-- Settles O19: `exec` is the case `FC_WIDTH` = 16 of the equation for every parameter set. -/
theorem fastTickAddsOneToFc : Obligations.FastTickAddsOneToFc := by
  refine ⟨rfl, fun s => ?_, fun p s => ?_⟩
  · rw [exec_eq, execFor_fastTick, fastTickOp_eq]; rfl
  · rw [execFor_fastTick, fastTickOp_eq]

/-- Settles O20: `exec` is the case `SLOW_INC` = 5, `SC_WIDTH` = 16 of the equation for every parameter
set. -/
theorem slowTickAddsFiveToSc : Obligations.SlowTickAddsFiveToSc := by
  refine ⟨rfl, fun s => ?_, fun p s => ?_⟩
  · rw [exec_eq, execFor_slowTick, slowTickOp_eq]; rfl
  · rw [execFor_slowTick, slowTickOp_eq]

end Sys2Proof.Machine

/-! SUPPORT. The obligations of spec/41_led_output.md: what `SETLED_OP` and `SETLED` do (R65, R67), the mapping of the
bits (R66), and that `LED_OUT` changes through requests alone (R68), with the lemmas they are assembled from. -/

namespace Sys2Proof.Machine

/-! ### The two operations -/

/-- After `SETLED_OP` the LED its index names holds the value it was called with, and every other LED what it
held (R65). -/
theorem setledOp_ledOut_getLsbD (idx : Nat) (lit : Bool) (s : State) {j : Nat} (hj : j < 4) :
    (setledOp idx lit s).ledOut.getLsbD j = if j = idx then lit else s.ledOut.getLsbD j := by
  rw [setledOp_eq, writeLed_getLsbD s.ledOut idx lit hj]
  exact if_congr eq_comm rfl rfl

/-- Settles O23: the pattern left is the one `writeLed` gives, read bit by bit. -/
theorem setledOpWritesOneBitAndEmits : Obligations.SetledOpWritesOneBitAndEmits := fun idx lit s =>
  ⟨writeLed s.ledOut idx lit, setledOp_eq idx lit s,
    fun _ _ hj => setledOp_ledOut_getLsbD idx lit s hj, writeLed_no_led s.ledOut lit⟩

/-- Settles O24: in mode IDLE `SETLED` is `SETLED_OP`, in the other modes it is nothing, and no parameter enters
either. -/
theorem setledActsInIdleOnly : Obligations.SetledActsInIdleOnly := by
  refine ⟨by decide, fun led lit s => ⟨fun hidle => ?_, fun hrun => ?_⟩, fun p led lit s => ?_⟩
  · refine ⟨setledOp led lit s, ?_, setledOp_eq led lit s,
      fun _ hj => setledOp_ledOut_getLsbD led lit s hj⟩
    rw [exec_eq, execFor_setled, setledCommand_of_idle led lit hidle]
  · rw [exec_eq, execFor_setled, setledCommand_of_running led lit hrun]
  · rw [exec_eq, execFor_setled, execFor_setled]

/-! ### The port `led` -/

/-- The port shows a pattern exactly when each LED is as the pattern's bit of that number says (R66). -/
theorem ledPort_eq_iff (s : State) {v : LedPattern} {lit : Nat → Bool}
    (hv : ∀ i < 4, v.getLsbD i = lit i) :
    s.ledPort = v ↔ ∀ i < 4, s.ledOut.getLsbD i = lit i := by
  rw [State.ledPort, BitVec.eq_of_getLsbD_eq_iff]
  exact forall₂_congr fun i hi => by rw [hv i hi]

/-- Settles O25: the four patterns by their bits. -/
theorem ledPatternBitsAreLogicalLeds : Obligations.LedPatternBitsAreLogicalLeds := fun s =>
  ⟨fun _ _ => rfl, ledPort_eq_iff s (by decide), ledPort_eq_iff s (by decide),
    ledPort_eq_iff s (by decide), ledPort_eq_iff s (by decide)⟩

/-! ### `LED_OUT` changes through requests alone -/

/-- Between `s` and `t` of one cycle `LED_OUT` was written by the requests emitted, applied in turn, and by
nothing else (R68). -/
def LedOutFollowsRequests (s t : State) : Prop :=
  ∃ rs, t.cycleReqs = s.cycleReqs ++ rs ∧ t.ledOut = writeLeds s.ledOut rs

section LedOutFollowsRequests

variable {s t u : State}

/-- What writes neither `LED_OUT` nor the requests is the case of no request. -/
theorem ledOutFollowsRequests_of_eq (hout : t.ledOut = s.ledOut) (hreqs : t.cycleReqs = s.cycleReqs) :
    LedOutFollowsRequests s t :=
  ⟨[], by rw [hreqs, List.append_nil], hout⟩

theorem LedOutFollowsRequests.trans (hst : LedOutFollowsRequests s t) (htu : LedOutFollowsRequests t u) :
    LedOutFollowsRequests s u := by
  obtain ⟨rs, hreqs, hout⟩ := hst
  obtain ⟨qs, hreqs', hout'⟩ := htu
  exact ⟨rs ++ qs, by rw [hreqs', hreqs, List.append_assoc], by rw [hout', hout, writeLeds_append]⟩

end LedOutFollowsRequests

theorem ledOutFollowsRequests_setledOp (idx : Nat) (lit : Bool) (s : State) :
    LedOutFollowsRequests s (setledOp idx lit s) :=
  ⟨[⟨idx, lit⟩], rfl, rfl⟩

theorem ledOutFollowsRequests_applyOp (p : Config.Params) (idx t : Nat) (s : State) :
    LedOutFollowsRequests s (applyOp p idx t s) := by
  obtain ⟨_, _, rs, happly⟩ := applyOp_of_fc_onState p idx t s.fc s.onState
  rw [happly s rfl rfl]
  exact ⟨rs, rfl, rfl⟩

theorem ledOutFollowsRequests_stepOp (p : Config.Params) (s : State) :
    LedOutFollowsRequests s (stepOp p s) := by
  obtain ⟨-, e⟩ | ⟨-, e⟩ | ⟨-, e⟩ := stepOp_cases p s
  · rw [e]; exact ledOutFollowsRequests_of_eq rfl rfl
  · rw [e]; exact ledOutFollowsRequests_applyOp p s.ledsel s.gth s
  · have happly := ledOutFollowsRequests_applyOp p s.ledsel s.ramp s
    obtain ⟨-, e'⟩ | ⟨-, e'⟩ := pulseIter_cases p s
    · rw [e, e']; exact happly
    · rw [e, e']; exact happly.trans (ledOutFollowsRequests_of_eq rfl rfl)

theorem ledOutFollowsRequests_setledCommand (led : Nat) (lit : Bool) (s : State) :
    LedOutFollowsRequests s (setledCommand led lit s) := by
  obtain ⟨-, e⟩ | ⟨-, e⟩ := setledCommand_cases led lit s
  · rw [e]; exact ledOutFollowsRequests_setledOp led lit s
  · rw [e]; exact ledOutFollowsRequests_of_eq rfl rfl

/-- A driver start, accepted or not, writes neither `LED_OUT` nor the requests. -/
theorem glowStart_ledOut_cycleReqs (p : Config.Params) (led t : Nat) (s : State) :
    (glowStart p led t s).ledOut = s.ledOut ∧ (glowStart p led t s).cycleReqs = s.cycleReqs := by
  obtain ⟨-, -, e⟩ | ⟨-, e⟩ := glowStart_cases p led t s <;> rw [e] <;> exact ⟨rfl, rfl⟩

theorem pulseStart_ledOut_cycleReqs (led : Nat) (s : State) :
    (pulseStart led s).ledOut = s.ledOut ∧ (pulseStart led s).cycleReqs = s.cycleReqs := by
  obtain ⟨-, e⟩ | ⟨-, e⟩ := pulseStart_cases led s <;> rw [e] <;> exact ⟨rfl, rfl⟩

/-- R68 for one operation: only `STEP` and `SETLED` reach `SETLED_OP`. -/
theorem execFor_ledOutFollowsRequests {p : Config.Params} {i : Instr} {s t : State}
    (h : execFor p i s = .next t) : LedOutFollowsRequests s t := by
  cases i with
  | fastTick => cases h; exact ledOutFollowsRequests_of_eq rfl rfl
  | slowTick => cases h; exact ledOutFollowsRequests_of_eq rfl rfl
  | step => cases h; exact ledOutFollowsRequests_stepOp p s
  | nop => cases h; exact ledOutFollowsRequests_of_eq rfl rfl
  | rsvd => cases h; exact ledOutFollowsRequests_of_eq rfl rfl
  | glow led th =>
    cases h
    obtain ⟨hout, hreqs⟩ := glowStart_ledOut_cycleReqs p led th s
    exact ledOutFollowsRequests_of_eq hout hreqs
  | pulse led =>
    cases h
    obtain ⟨hout, hreqs⟩ := pulseStart_ledOut_cycleReqs led s
    exact ledOutFollowsRequests_of_eq hout hreqs
  | setled led lit => cases h; exact ledOutFollowsRequests_setledCommand led lit s

/-- R68 for operations run one after another. -/
theorem runOps_ledOutFollowsRequests {p : Config.Params} {ops : List Instr} {s t : State}
    (h : runOps (execFor p) ops s = .next t) : LedOutFollowsRequests s t :=
  runOps_keeps (fun _ _ _ hu hv => hu.trans (execFor_ledOutFollowsRequests hv)) ops s t
    (ledOutFollowsRequests_of_eq rfl rfl) h

/-- Settles O26: a cycle without reset begins with no request, so its own requests are all that `LED_OUT`
followed. -/
theorem ledOutChangesOnlyThroughRequests : Obligations.LedOutChangesOnlyThroughRequests := by
  refine ⟨fun p i s t h => execFor_ledOutFollowsRequests h, fun p s t hrst h => ?_,
    fun p led th s t h => ?_⟩
  · obtain ⟨hrst', -⟩ | ⟨-, e⟩ := stepFor_cases p s
    · exact absurd (hrst.symm.trans hrst') nofun
    · rw [e] at h
      obtain ⟨rs, hreqs, hout⟩ := runOps_ledOutFollowsRequests h
      rw [hreqs, beginCycle_cycleReqs, List.nil_append]
      exact hout
  · obtain h | h := h
    · cases h; exact glowStart_ledOut_cycleReqs p led th s
    · cases h; exact pulseStart_ledOut_cycleReqs led s

end Sys2Proof.Machine

/-! SUPPORT. The obligations of spec/42_pwm_engine.md: `APPLY` by its three regions (R70 to R76), and what the
LED of a running driver is told over a run without reset (R73, R77), with the lemmas they are assembled from. -/

/-! ### `APPLY` by region -/

namespace Sys2Proof.Machine

/-- The requests that make `ON` equal to `lit`: none when it is already (R73). -/
def State.commandReqs (s : State) (idx : Nat) (lit : Bool) : List LedReq :=
  if s.onState = lit then [] else [⟨idx, lit⟩]

/-- The LED commanded to `lit`: `ON` holds it afterwards, and a request is emitted if `ON` changed (R72,
R73). -/
def State.commandLed (s : State) (idx : Nat) (lit : Bool) : State :=
  { s with onState := lit, ledOut := writeLeds s.ledOut (s.commandReqs idx lit),
           cycleReqs := s.cycleReqs ++ s.commandReqs idx lit }

section CommandLed

variable (s : State) (idx : Nat) (lit : Bool)

theorem commandReqs_of_eq (h : s.onState = lit) : s.commandReqs idx lit = [] := if_pos h

theorem commandReqs_of_ne (h : s.onState ≠ lit) : s.commandReqs idx lit = [⟨idx, lit⟩] := if_neg h

theorem commandReqs_length_le : (s.commandReqs idx lit).length ≤ 1 := by
  unfold State.commandReqs
  split <;> simp

theorem commandReqs_eq_nil_iff : s.commandReqs idx lit = [] ↔ s.onState = lit := by
  simp [State.commandReqs]

theorem commandLed_of_eq (h : s.onState = lit) : s.commandLed idx lit = s := by
  rw [State.commandLed, commandReqs_of_eq s idx lit h, List.append_nil, writeLeds_nil, ← h]

theorem commandLed_of_ne (h : s.onState ≠ lit) : s.commandLed idx lit = setledOp idx lit (s.setOn lit) := by
  rw [State.commandLed, commandReqs_of_ne s idx lit h]
  rfl

theorem commandLed_commandLed : (s.commandLed idx lit).commandLed idx lit = s.commandLed idx lit :=
  commandLed_of_eq (s.commandLed idx lit) idx lit rfl

/-- A request is emitted exactly when `ON` changes (R73). -/
theorem commandLed_cycleReqs_ne_iff :
    (s.commandLed idx lit).cycleReqs ≠ s.cycleReqs ↔ (s.commandLed idx lit).onState ≠ s.onState := by
  have hreqs : (s.commandLed idx lit).cycleReqs = s.cycleReqs ↔ s.onState = lit :=
    List.append_right_eq_self.trans (commandReqs_eq_nil_iff s idx lit)
  exact not_congr (hreqs.trans eq_comm)

end CommandLed

section Regions

variable {p : Config.Params} {t : Nat} {s : State} (idx : Nat)

/-- Region A of `APPLY`: below the threshold the LED is commanded on. -/
theorem applyOp_of_below (ht : s.fc < t) : applyOp p idx t s = s.commandLed idx true := by
  rw [applyOp_eq, if_pos ht]
  split
  · next hon => exact (commandLed_of_eq s idx true hon).symm
  · next hoff => exact (commandLed_of_ne s idx true hoff).symm

/-- Region B of `APPLY`: from the threshold up to `PERIOD` the LED is commanded off. -/
theorem applyOp_of_between (ht : t ≤ s.fc) (hfc : s.fc < p.period) :
    applyOp p idx t s = s.commandLed idx false := by
  rw [applyOp_eq, if_neg (by omega), if_pos hfc]
  split
  · next hon => exact (commandLed_of_ne s idx false (by simp [hon])).symm
  · next hoff => exact (commandLed_of_eq s idx false (Bool.eq_false_of_not_eq_true hoff)).symm

variable (p t s)

/-- The three regions, each with what `APPLY` is in it (R70, R72, R74). -/
theorem applyOp_regions :
    (s.fc < t ∧ applyOp p idx t s = s.commandLed idx true) ∨
    (t ≤ s.fc ∧ s.fc < p.period ∧ applyOp p idx t s = s.commandLed idx false) ∨
    (t ≤ s.fc ∧ p.period ≤ s.fc ∧ applyOp p idx t s = s.setFc 0) := by
  by_cases ht : s.fc < t
  · exact .inl ⟨ht, applyOp_of_below idx ht⟩
  · rw [Nat.not_lt] at ht
    by_cases hfc : s.fc < p.period
    · exact .inr (.inl ⟨ht, hfc, applyOp_of_between idx ht hfc⟩)
    · rw [Nat.not_lt] at hfc
      exact .inr (.inr ⟨ht, hfc, applyOp_of_wrap idx ht hfc⟩)

end Regions

/-- Settles O29: each region excludes the other two. -/
theorem applyCommandsByRegion : Obligations.ApplyCommandsByRegion := by
  intro p idx t s
  obtain ⟨ht, e⟩ | ⟨ht, hfc, e⟩ | ⟨ht, hfc, e⟩ := applyOp_regions p t s idx
  · refine ⟨_, s.commandReqs idx true, e, rfl, rfl, rfl, commandReqs_length_le s idx true,
      fun _ => ⟨rfl, rfl, rfl⟩, fun _ _ => ?_, fun _ _ => ?_⟩ <;> omega
  · refine ⟨_, s.commandReqs idx false, e, rfl, rfl, rfl, commandReqs_length_le s idx false,
      fun _ => ?_, fun _ _ => ⟨rfl, rfl, ?_⟩, fun _ _ => ?_⟩
    · omega
    · cases hon : s.onState <;> simp [State.commandReqs, hon]
    · omega
  · refine ⟨_, [], e, rfl, (List.append_nil _).symm, rfl, Nat.zero_le 1,
      fun _ => ?_, fun _ _ => ?_, fun _ _ => ⟨rfl, rfl, rfl⟩⟩ <;> omega

/-- Settles O30: a command given twice changes nothing the second time, and `FC`, which chose it, is not
written below `PERIOD`. -/
theorem applyIsIdempotentBelowPeriod : Obligations.ApplyIsIdempotentBelowPeriod := by
  refine fun p idx t s => ⟨fun hfc => ?_, fun ht hfc => ?_, ?_⟩
  · obtain ⟨ht, e⟩ | ⟨ht, -, e⟩ | ⟨-, hwrap, -⟩ := applyOp_regions p t s idx
    · rw [e, applyOp_of_below idx (by exact ht), commandLed_commandLed]
    · rw [e, applyOp_of_between idx (by exact ht) (by exact hfc), commandLed_commandLed]
    · omega
  · rw [applyOp_of_wrap idx (ht.trans hfc) hfc, setFc_fc]
  · obtain ⟨-, e⟩ | ⟨-, -, e⟩ | ⟨-, -, e⟩ := applyOp_regions p t s idx
    · rw [e]; exact commandLed_cycleReqs_ne_iff s idx true
    · rw [e]; exact commandLed_cycleReqs_ne_iff s idx false
    · rw [e]; exact iff_of_false (absurd rfl) (absurd rfl)

/-! ### `STEP` by the effective threshold -/

theorem effectiveThreshold_of_glow {s : State} (h : s.mode = .glow) : s.effectiveThreshold = some s.gth := by
  rw [State.effectiveThreshold, h]
  rfl

/-- A running driver has an effective threshold (R20). -/
theorem exists_effectiveThreshold {s : State} (hrun : s.mode ≠ .idle) :
    ∃ th, s.effectiveThreshold = some th := by
  unfold State.effectiveThreshold
  cases hmode : s.mode with
  | idle => exact absurd hmode hrun
  | glow => exact ⟨s.gth, rfl⟩
  | pulse => exact ⟨s.ramp, rfl⟩

/-- In either driver mode `STEP` is `APPLY` of `LEDSEL` and the effective threshold, and otherwise writes the
ramp's registers and `SC` at most (R82, R88). -/
theorem stepOp_of_effectiveThreshold (p : Config.Params) {s : State} {th : Nat}
    (hth : s.effectiveThreshold = some th) :
    ∃ ramp dir sc,
      stepOp p s = { applyOp p s.ledsel th s with ramp := ramp, dir := dir, sc := sc } := by
  unfold State.effectiveThreshold at hth
  cases hmode : s.mode with
  | idle => rw [hmode] at hth; cases hth
  | glow => rw [hmode] at hth; cases hth; exact ⟨_, _, _, stepOp_of_glow p hmode⟩
  | pulse =>
    rw [hmode] at hth; cases hth
    rw [stepOp_of_pulse p hmode]
    obtain ⟨-, e⟩ | ⟨-, e⟩ := pulseIter_cases p s
    · exact ⟨_, _, _, e⟩
    · exact ⟨_, _, _, e⟩

/-! ### Who writes `FC` -/

theorem glowStart_fc (p : Config.Params) (led t : Nat) (s : State) : (glowStart p led t s).fc = s.fc := by
  obtain ⟨-, -, e⟩ | ⟨-, e⟩ := glowStart_cases p led t s <;> rw [e]

theorem pulseStart_fc (led : Nat) (s : State) : (pulseStart led s).fc = s.fc := by
  obtain ⟨-, e⟩ | ⟨-, e⟩ := pulseStart_cases led s <;> rw [e]

theorem setledCommand_fc (led : Nat) (lit : Bool) (s : State) : (setledCommand led lit s).fc = s.fc := by
  obtain ⟨-, e⟩ | ⟨-, e⟩ := setledCommand_cases led lit s <;> rw [e]
  rfl

/-- `APPLY` writes `FC` in region C only, and there 0 (R74, R76). -/
theorem applyOp_fc_of_ne {p : Config.Params} {idx t : Nat} {s : State} (hne : (applyOp p idx t s).fc ≠ s.fc) :
    p.period ≤ s.fc ∧ (applyOp p idx t s).fc = 0 := by
  obtain ⟨-, e⟩ | ⟨-, -, e⟩ | ⟨-, hfc, e⟩ := applyOp_regions p t s idx
  · exact absurd (congrArg State.fc e) hne
  · exact absurd (congrArg State.fc e) hne
  · exact ⟨hfc, congrArg State.fc e⟩

/-- `STEP` writes `FC` as the `APPLY` of a running driver does. -/
theorem stepOp_fc_of_ne {p : Config.Params} {s : State} (hne : (stepOp p s).fc ≠ s.fc) :
    s.mode ≠ .idle ∧ p.period ≤ s.fc ∧ (stepOp p s).fc = 0 := by
  have hrun : s.mode ≠ .idle := fun hidle => hne (congrArg State.fc (stepOp_of_idle p hidle))
  obtain ⟨th, hth⟩ := exists_effectiveThreshold hrun
  obtain ⟨ramp, dir, sc, e⟩ := stepOp_of_effectiveThreshold p hth
  rw [e] at hne ⊢
  exact ⟨hrun, applyOp_fc_of_ne hne⟩

/-- Settles O31: of the operations only `FAST_TICK` and `STEP` write `FC`, and `STEP` through region C
alone. -/
theorem applyIsTheSoleWrapPoint : Obligations.ApplyIsTheSoleWrapPoint := by
  refine ⟨fun p idx t s ht hfc => ⟨applyOp_of_wrap idx (ht.trans hfc) hfc, fun hon hpos => ?_⟩,
    fun p i s t h hne => ?_⟩
  · rw [applyOp_of_below idx (by exact hpos)]
    exact commandLed_of_eq { s with fc := 0 } idx true hon
  · cases i with
    | fastTick => cases h; exact .inl ⟨rfl, rfl⟩
    | slowTick => cases h; exact absurd rfl hne
    | step => cases h; exact .inr ⟨rfl, stepOp_fc_of_ne hne⟩
    | nop => cases h; exact absurd rfl hne
    | rsvd => cases h; exact absurd rfl hne
    | glow led th => cases h; exact absurd (glowStart_fc p led th s) hne
    | pulse led => cases h; exact absurd (pulseStart_fc led s) hne
    | setled led lit => cases h; exact absurd (setledCommand_fc led lit s) hne

/-! ### Runs without reset -/

theorem execFor_next (p : Config.Params) (i : Instr) (s : State) : ∃ t, execFor p i s = .next t := by
  cases i <;> exact ⟨_, rfl⟩

theorem runOps_execFor_next (p : Config.Params) (ops : List Instr) (s : State) :
    ∃ t, runOps (execFor p) ops s = .next t := by
  induction ops generalizing s with
  | nil => exact ⟨s, rfl⟩
  | cons i ops ih =>
    obtain ⟨u, hu⟩ := execFor_next p i s
    rw [runOps_cons, hu, andThen_next]
    exact ih u

theorem stepFor_next (p : Config.Params) (s : State) : ∃ t, stepFor p s = .next t := by
  obtain ⟨-, e⟩ | ⟨-, e⟩ := stepFor_cases p s
  · exact ⟨_, e⟩
  · rw [e]; exact runOps_execFor_next p _ _

section Runs

variable {p : Config.Params} {s : State}

theorem nextInputs_rst_of_noReset (hno : NoReset s) : (nextInputs s).rst = false := by
  unfold nextInputs
  cases hin : s.inputs with
  | nil => rfl
  | cons inp rest => exact hno inp (by rw [hin]; exact List.mem_cons_self)

theorem noReset_of_stepFor {t : State} (hno : NoReset s) (h : stepFor p s = .next t) : NoReset t := by
  obtain ⟨hin, -, -⟩ := stepFor_bookkeeping h
  intro inp hinp
  rw [hin] at hinp
  exact hno inp (List.mem_of_mem_tail hinp)

/-- The bookkeeping at a rising edge loses no request and emits none. -/
@[simp] theorem beginCycle_requests (s : State) : (beginCycle s).requests = s.requests :=
  List.append_nil _

/-- A run without reset goes through, and what the bookkeeping and every operation keep holds at its end. -/
theorem run_keeps_of_noReset {P : State → Prop} (hbegin : ∀ u, P u → P (beginCycle u))
    (hop : ∀ i u v, P u → execFor p i u = .next v → P v) (k : Nat) (hs : P s) (hno : NoReset s) :
    ∃ t : State, (coreFor p).run k s = .next t ∧ P t := by
  induction k generalizing s with
  | zero => exact ⟨s, rfl, hs⟩
  | succ k ih =>
    obtain ⟨u, hu⟩ := stepFor_next p s
    have hPu : P u := by
      obtain ⟨hrst, -⟩ | ⟨-, e⟩ := stepFor_cases p s
      · exact absurd (hrst.symm.trans (nextInputs_rst_of_noReset hno)) nofun
      · exact runOps_keeps hop _ _ u (hbegin s hs) (e.symm.trans hu)
    rw [coreFor_run_of_step k hu]
    exact ih hPu (noReset_of_stepFor hno hu)

end Runs

/-! ### What an operation does to the LED of a running driver -/

/-- The driver that runs in `t` is the one that runs in `s` (R83, R95). -/
structure SameDriver (s t : State) : Prop where
  mode : t.mode = s.mode
  ledsel : t.ledsel = s.ledsel
  gth : t.gth = s.gth

/-- From `s` to `t` no LED was switched. -/
structure KeepsLed (s t : State) : Prop where
  onState : t.onState = s.onState
  requests : t.requests = s.requests
  ledOut : t.ledOut = s.ledOut

/-- From `s` to `t` the LED `idx` was switched once, at a poll against the threshold `th`: on below it, off
from it up to `PERIOD` (R70, R73). -/
structure SwitchesLed (p : Config.Params) (idx th : Nat) (s t : State) : Prop where
  onState : t.onState = !s.onState
  requests : t.requests = s.requests ++ [⟨idx, !s.onState⟩]
  below : s.onState = false → s.fc < th
  between : s.onState = true → th ≤ s.fc ∧ s.fc < p.period

section Running

variable {p : Config.Params} {s t u : State}

theorem SameDriver.refl (s : State) : SameDriver s s := ⟨rfl, rfl, rfl⟩

theorem SameDriver.trans (hst : SameDriver s t) (htu : SameDriver t u) : SameDriver s u :=
  ⟨htu.mode.trans hst.mode, htu.ledsel.trans hst.ledsel, htu.gth.trans hst.gth⟩

theorem SameDriver.running (hst : SameDriver s t) (hrun : s.mode ≠ .idle) : t.mode ≠ .idle :=
  hst.mode ▸ hrun

theorem sameDriver_stepOp (p : Config.Params) (s : State) : SameDriver s (stepOp p s) := by
  by_cases hidle : s.mode = .idle
  · rw [stepOp_of_idle p hidle]; exact SameDriver.refl s
  · obtain ⟨th, hth⟩ := exists_effectiveThreshold hidle
    obtain ⟨ramp, dir, sc, e⟩ := stepOp_of_effectiveThreshold p hth
    rw [e]
    exact ⟨applyOp_mode p s.ledsel th s, applyOp_ledsel p s.ledsel th s, applyOp_gth p s.ledsel th s⟩

/-- While a driver runs, no operation but `STEP` touches the driver or the LED: the ticks write the counters,
and the commands are ignored (R99). -/
theorem execFor_of_running {i : Instr} (hrun : s.mode ≠ .idle) (h : execFor p i s = .next t) :
    (SameDriver s t ∧ KeepsLed s t) ∨ t = stepOp p s := by
  have hkeep : SameDriver s s ∧ KeepsLed s s := ⟨SameDriver.refl s, rfl, rfl, rfl⟩
  cases i with
  | fastTick => cases h; exact .inl ⟨⟨rfl, rfl, rfl⟩, rfl, rfl, rfl⟩
  | slowTick => cases h; exact .inl ⟨⟨rfl, rfl, rfl⟩, rfl, rfl, rfl⟩
  | step => cases h; exact .inr rfl
  | nop => cases h; exact .inl hkeep
  | rsvd => cases h; exact .inl hkeep
  | glow led th => cases h; rw [glowStart_of_running p led th hrun]; exact .inl hkeep
  | pulse led => cases h; rw [pulseStart_of_running led hrun]; exact .inl hkeep
  | setled led lit => cases h; rw [setledCommand_of_running led lit hrun]; exact .inl hkeep

theorem execFor_sameDriver {i : Instr} (hrun : s.mode ≠ .idle) (h : execFor p i s = .next t) :
    SameDriver s t := by
  obtain ⟨hsame, -⟩ | rfl := execFor_of_running hrun h
  · exact hsame
  · exact sameDriver_stepOp p s

theorem setledOp_setOn_requests (idx : Nat) (lit : Bool) (s : State) :
    (setledOp idx lit (s.setOn lit)).requests = s.requests ++ [⟨idx, lit⟩] :=
  (List.append_assoc s.pastReqs s.cycleReqs _).symm

/-- `APPLY` switches its LED once or not at all, and only as the region says. -/
theorem applyOp_keepsLed_or_switchesLed (p : Config.Params) (idx th : Nat) (s : State) :
    KeepsLed s (applyOp p idx th s) ∨ SwitchesLed p idx th s (applyOp p idx th s) := by
  obtain ⟨-, -, e⟩ | ⟨hth, hoff, e⟩ | ⟨-, -, -, e⟩ | ⟨hth, hfc, hon, e⟩ | ⟨-, -, e⟩ :=
    applyOp_cases p idx th s
  · rw [e]; exact .inl ⟨rfl, rfl, rfl⟩
  · rw [e]
    refine .inr ⟨?_, ?_, fun _ => hth, fun hon => ?_⟩
    · rw [hoff]; rfl
    · rw [hoff]; exact setledOp_setOn_requests idx true s
    · exact absurd (hoff.symm.trans hon) nofun
  · rw [e]; exact .inl ⟨rfl, rfl, rfl⟩
  · rw [e]
    refine .inr ⟨?_, ?_, fun hoff => ?_, fun _ => ⟨hth, hfc⟩⟩
    · rw [hon]; rfl
    · rw [hon]; exact setledOp_setOn_requests idx false s
    · exact absurd (hoff.symm.trans hon) nofun
  · rw [e]; exact .inl ⟨rfl, rfl, rfl⟩

/-- An operation switches the LED of a running driver once or not at all, and only as the effective threshold
says. -/
theorem execFor_keepsLed_or_switchesLed {i : Instr} {th : Nat} (hth : s.effectiveThreshold = some th)
    (hrun : s.mode ≠ .idle) (h : execFor p i s = .next t) :
    KeepsLed s t ∨ SwitchesLed p s.ledsel th s t := by
  obtain ⟨-, hkeep⟩ | rfl := execFor_of_running hrun h
  · exact .inl hkeep
  · obtain ⟨ramp, dir, sc, e⟩ := stepOp_of_effectiveThreshold p hth
    rw [e]
    obtain ⟨hon, hreqs, hout⟩ | ⟨hon, hreqs, hbelow, hbetween⟩ :=
      applyOp_keepsLed_or_switchesLed p s.ledsel th s
    · exact .inl ⟨hon, hreqs, hout⟩
    · exact .inr ⟨hon, hreqs, hbelow, hbetween⟩

end Running

/-! ### The Glow Driver at its two extreme thresholds -/

/-- Since `s` the Glow Driver at threshold 0 has left its LED alone, which is off. -/
structure StaysDark (s t : State) : Prop where
  glow : t.mode = .glow
  gth : t.gth = 0
  off : t.onState = false
  requests : t.requests = s.requests
  ledOut : t.ledOut = s.ledOut

/-- No counter is below the threshold 0, so no poll switches the LED on. -/
theorem StaysDark.execFor {p : Config.Params} {i : Instr} {s u v : State} (hu : StaysDark s u)
    (h : execFor p i u = .next v) : StaysDark s v := by
  have hrun : u.mode ≠ .idle := by simp [hu.glow]
  have hsame := execFor_sameDriver hrun h
  obtain hkeep | hswitch := execFor_keepsLed_or_switchesLed (effectiveThreshold_of_glow hu.glow) hrun h
  · exact ⟨hsame.mode.trans hu.glow, hsame.gth.trans hu.gth, hkeep.onState.trans hu.off,
      hkeep.requests.trans hu.requests, hkeep.ledOut.trans hu.ledOut⟩
  · have hbelow : u.fc < 0 := hu.gth ▸ hswitch.below hu.off
    exact absurd hbelow (Nat.not_lt_zero _)

/-- Settles O32: `StaysDark` holds at the start and every operation keeps it. -/
theorem glowAtThresholdZeroNeverRequests : Obligations.GlowAtThresholdZeroNeverRequests := by
  intro p k s hmode hgth hoff hno
  obtain ⟨t, hrun, ht⟩ := run_keeps_of_noReset (P := StaysDark s)
    (fun u hu => { hu with requests := (beginCycle_requests u).trans hu.requests })
    (fun i u v hu h => hu.execFor h) k ⟨hmode, hgth, hoff, rfl, rfl⟩ hno
  exact ⟨t, hrun, ht.requests, ht.ledOut, ht.off⟩

/-- Since `s` the Glow Driver at threshold `PERIOD` has left its LED alone, or has switched it on, once. -/
structure LightsAtMostOnce (p : Config.Params) (s t : State) : Prop where
  glow : t.mode = .glow
  gth : t.gth = p.period
  ledsel : t.ledsel = s.ledsel
  lit : (t.requests = s.requests ∧ t.onState = s.onState) ∨
    (s.onState = false ∧ t.onState = true ∧ t.requests = s.requests ++ [⟨s.ledsel, true⟩])

/-- No counter lies from the threshold up to `PERIOD`, so no poll switches the LED off: the one that switches it
finds it off, as it was at the start. -/
theorem LightsAtMostOnce.execFor {p : Config.Params} {i : Instr} {s u v : State}
    (hu : LightsAtMostOnce p s u) (h : execFor p i u = .next v) : LightsAtMostOnce p s v := by
  have hrun : u.mode ≠ .idle := by simp [hu.glow]
  have hsame := execFor_sameDriver hrun h
  refine ⟨hsame.mode.trans hu.glow, hsame.gth.trans hu.gth, hsame.ledsel.trans hu.ledsel, ?_⟩
  obtain hkeep | hswitch := execFor_keepsLed_or_switchesLed (effectiveThreshold_of_glow hu.glow) hrun h
  · rw [hkeep.requests, hkeep.onState]
    exact hu.lit
  · have hoff : u.onState = false := by
      by_contra hon
      obtain ⟨hth, hfc⟩ := hswitch.between (Bool.eq_true_of_not_eq_false hon)
      have := hu.gth
      omega
    obtain ⟨hreqs, hon⟩ | ⟨-, hon, -⟩ := hu.lit
    · refine .inr ⟨hon.symm.trans hoff, ?_, ?_⟩
      · rw [hswitch.onState, hoff]; rfl
      · rw [hswitch.requests, hoff, hreqs, hu.ledsel]; rfl
    · exact absurd (hoff.symm.trans hon) nofun

/-- Settles O33: a poll below `PERIOD` is one below the threshold, and `LightsAtMostOnce` holds at the start and
every operation keeps it. -/
theorem glowAtThresholdPeriodRequestsOnce : Obligations.GlowAtThresholdPeriodRequestsOnce := by
  refine ⟨fun p s hmode hgth hoff hfc => ?_, fun p k s hmode hgth hno => ?_⟩
  · have hstep : stepOp p s = setledOp s.ledsel true (s.setOn true) := by
      rw [stepOp_of_glow p hmode, applyOp_of_below s.ledsel (by omega),
        commandLed_of_ne s s.ledsel true (by simp [hoff])]
    rw [execFor_step, hstep]
    exact ⟨_, rfl, rfl, setledOp_setOn_requests s.ledsel true s⟩
  · obtain ⟨t, hrun, ht⟩ := run_keeps_of_noReset (P := LightsAtMostOnce p s)
      (fun u hu => { hu with lit := by rw [beginCycle_requests]; exact hu.lit })
      (fun i u v hu h => hu.execFor h) k ⟨hmode, hgth, rfl, .inl ⟨rfl, rfl⟩⟩ hno
    exact ⟨t, hrun, ht.lit⟩

/-! ### The alternation of a driver's requests -/

/-- `ON` after `n` switches from `lit`. -/
def litAfter (lit : Bool) (n : Nat) : Bool := if n % 2 = 0 then lit else !lit

theorem litAfter_succ (lit : Bool) (n : Nat) : litAfter lit (n + 1) = !litAfter lit n := by
  unfold litAfter
  obtain h | h := Nat.mod_two_eq_zero_or_one n
  · rw [if_pos h, if_neg (by omega)]
  · rw [if_pos (by omega), if_neg (by omega), Bool.not_not]

/-- The requests of `n` switches of the LED `idx` from `lit`, each saying what `ON` becomes. -/
def alternation (idx : Nat) (lit : Bool) (n : Nat) : List LedReq :=
  (List.range n).map fun m => ⟨idx, litAfter lit (m + 1)⟩

theorem alternation_succ (idx : Nat) (lit : Bool) (n : Nat) :
    alternation idx lit (n + 1) = alternation idx lit n ++ [⟨idx, !litAfter lit n⟩] := by
  rw [alternation, List.range_succ, List.map_append, List.map_singleton, litAfter_succ, alternation]

theorem alternation_length (idx : Nat) (lit : Bool) (n : Nat) : (alternation idx lit n).length = n := by
  simp [alternation]

theorem idx_of_mem_alternation {idx n : Nat} {lit : Bool} {r : LedReq} (h : r ∈ alternation idx lit n) :
    r.idx = idx := by
  obtain ⟨m, -, rfl⟩ := List.mem_map.mp h
  rfl

theorem lit_of_alternation_getElem? {idx n m : Nat} {lit : Bool} {r : LedReq}
    (h : (alternation idx lit n)[m]? = some r) : r.lit = if m % 2 = 0 then !lit else lit := by
  rw [alternation, List.getElem?_map] at h
  obtain ⟨j, hj, rfl⟩ := Option.map_eq_some_iff.mp h
  obtain ⟨-, rfl⟩ := List.getElem?_eq_some_iff.mp hj
  rw [List.getElem_range, litAfter_succ, litAfter, apply_ite not, Bool.not_not]

/-- Since `s` the driver that runs has switched its LED `n` times for some `n`, alternately (R73). -/
structure SwitchesAlternately (s t : State) : Prop where
  driver : SameDriver s t
  switches : ∃ n, t.requests = s.requests ++ alternation s.ledsel s.onState n ∧
    t.onState = litAfter s.onState n

/-- A switch says the opposite of `ON`, which is what the switch before said. -/
theorem SwitchesAlternately.execFor {p : Config.Params} {i : Instr} {s u v : State}
    (hu : SwitchesAlternately s u) (hrun : s.mode ≠ .idle) (h : execFor p i u = .next v) :
    SwitchesAlternately s v := by
  have hrun' : u.mode ≠ .idle := hu.driver.running hrun
  refine ⟨hu.driver.trans (execFor_sameDriver hrun' h), ?_⟩
  obtain ⟨n, hreqs, hon⟩ := hu.switches
  obtain ⟨th, hth⟩ := exists_effectiveThreshold hrun'
  obtain hkeep | hswitch := execFor_keepsLed_or_switchesLed hth hrun' h
  · exact ⟨n, hkeep.requests.trans hreqs, hkeep.onState.trans hon⟩
  · refine ⟨n + 1, ?_, ?_⟩
    · rw [hswitch.requests, hreqs, hon, hu.driver.ledsel, alternation_succ, List.append_assoc]
    · rw [hswitch.onState, hon, litAfter_succ]

/-- Settles O34: `SwitchesAlternately` holds at the start with no switch, and every operation keeps it. -/
theorem driverRequestsAlternate : Obligations.DriverRequestsAlternate := by
  intro p k s hrun hno
  obtain ⟨t, ht, -, n, hreqs, hon⟩ := run_keeps_of_noReset (P := SwitchesAlternately s)
    (fun u hu => ⟨⟨hu.driver.mode, hu.driver.ledsel, hu.driver.gth⟩,
      by rw [beginCycle_requests]; exact hu.switches⟩)
    (fun i u v hu h => hu.execFor hrun h) k
    ⟨SameDriver.refl s, 0, (List.append_nil _).symm, rfl⟩ hno
  refine ⟨t, alternation s.ledsel s.onState n, ht, hreqs, fun r hr => idx_of_mem_alternation hr,
    fun m r hr => lit_of_alternation_getElem? hr, ?_⟩
  rw [alternation_length]
  exact hon

end Sys2Proof.Machine

/-! SUPPORT. The obligations of spec/43_glow_driver.md: the driver start of `GLOW` (R80, R81), the poll of the Glow
Driver (R82), its run without end (R83, R95) and its duty cycle (R85), and the host's threshold (R84), with the
lemmas they are assembled from. -/

namespace Sys2Proof.Machine

/-! ### The commands of a running driver -/

/-- While a driver runs, every command is ignored (R99). -/
theorem execFor_command_of_running (p : Config.Params) {i : Instr} {s : State} (hrun : s.mode ≠ .idle)
    (hi : i.isCommand = true) : execFor p i s = .next s := by
  cases i with
  | fastTick => cases hi
  | slowTick => cases hi
  | step => cases hi
  | nop => rfl
  | rsvd => rfl
  | glow led t => rw [execFor_glow, glowStart_of_running p led t hrun]
  | pulse led => rw [execFor_pulse, pulseStart_of_running led hrun]
  | setled led lit => rw [execFor_setled, setledCommand_of_running led lit hrun]

/-- Settles O39: `SameDriver` holds at the start, and neither the bookkeeping nor an operation ends it. -/
theorem driversRunUntilReset : Obligations.DriversRunUntilReset := by
  refine ⟨fun p k s hrun hno => ?_, fun p i s hrun hi => execFor_command_of_running p hrun hi⟩
  obtain ⟨t, ht, hsame⟩ := run_keeps_of_noReset (p := p) (P := SameDriver s)
    (fun u hu => ⟨hu.mode, hu.ledsel, hu.gth⟩)
    (fun i u v hu h => hu.trans (execFor_sameDriver (hu.running hrun) h)) k (SameDriver.refl s) hno
  exact ⟨t, ht, hsame.mode, hsame.ledsel, hsame.gth⟩

/-! ### The driver start -/

/-- An accepted `GLOW` (R80). -/
theorem glowStart_of_idle {p : Config.Params} {t : Nat} {s : State} (led : Nat) (hidle : s.mode = .idle)
    (ht : t ≤ p.period) :
    glowStart p led t s = { s with gth := t, ledsel := led, onState := false, mode := .glow } := by
  obtain ⟨-, -, e⟩ | ⟨hrun | hout, -⟩ := glowStart_cases p led t s
  · exact e
  · exact absurd hidle hrun
  · omega

/-- A `GLOW` whose threshold is out of range is nothing, in every mode (R81). -/
theorem glowStart_of_out_of_range {p : Config.Params} {t : Nat} (led : Nat) (s : State)
    (ht : p.period < t) : glowStart p led t s = s := by
  obtain ⟨-, hin, -⟩ | ⟨-, e⟩ := glowStart_cases p led t s
  · omega
  · exact e

/-- A `GLOW` that is not accepted, for either reason (R81, R99). -/
theorem glowStart_of_refused {p : Config.Params} {t : Nat} (led : Nat) {s : State}
    (h : s.mode ≠ .idle ∨ p.period < t) : glowStart p led t s = s := by
  obtain hrun | hout := h
  · exact glowStart_of_running p led t hrun
  · exact glowStart_of_out_of_range led s hout

/-- Settles O36: `exec` is the case `PERIOD` = 500 of what holds in every parameter set. -/
theorem glowStartsTheDriver : Obligations.GlowStartsTheDriver := by
  refine ⟨by decide, fun led t s => ?_, fun p led t s => ?_⟩
  · rw [exec_eq, execFor_glow]
    exact ⟨fun hidle ht => congrArg _ (glowStart_of_idle (p := Config.params) led hidle ht),
      fun h => congrArg _ (glowStart_of_refused (p := Config.params) led h)⟩
  · rw [execFor_glow]
    exact ⟨fun hidle ht => congrArg _ (glowStart_of_idle led hidle ht),
      fun h => congrArg _ (glowStart_of_refused led h)⟩

/-- Settles O37: the first `GLOW` is nothing, so the second finds mode IDLE. -/
theorem outOfRangeGlowLeavesIdleForALaterOne : Obligations.OutOfRangeGlowLeavesIdleForALaterOne := by
  intro p led led' t t' s hidle ht
  have hfirst : execFor p (.glow led t) s = .next s := by
    rw [execFor_glow, glowStart_of_out_of_range led s ht]
  refine ⟨hfirst, fun ht' => ⟨glowStart p led' t' s, ?_, ?_⟩⟩
  · rw [runOps_cons, hfirst, andThen_next, runOps_singleton, execFor_glow]
  · rw [glowStart_of_idle led' hidle ht']
    exact ⟨rfl, rfl, rfl, rfl⟩

/-- Settles O38: `STEP` of mode GLOW is the `APPLY`, which writes no other register. -/
theorem stepInGlowAppliesTheGlowThreshold : Obligations.StepInGlowAppliesTheGlowThreshold := by
  refine ⟨fun p s hmode => ⟨applyOp p s.ledsel s.gth s, ?_, rfl, applyOp_frame p s.ledsel s.gth s⟩,
    fun s hmode => ?_⟩
  · rw [execFor_step, stepOp_of_glow p hmode]
  · rw [exec_eq, execFor_step, stepOp_of_glow Config.params hmode]

/-! ### The host's threshold -/

/-- The host's threshold is Mathlib's natural-number floor, so the lemmas about that floor apply to it. -/
theorem glowbThreshold_eq_floor (p : Config.Params) (b : Rat) :
    glowbThreshold p b = ⌊(p.period : Rat) * b + 1 / 2⌋₊ := rfl

/-- A brightness of at most 1 gives a threshold in range (R84). -/
theorem glowbThreshold_le (p : Config.Params) {b : Rat} (hb : b ≤ 1) : glowbThreshold p b ≤ p.period := by
  have hmul : (p.period : Rat) * b ≤ p.period := mul_le_of_le_one_right (Nat.cast_nonneg _) hb
  rw [glowbThreshold_eq_floor, ← Nat.lt_succ_iff]
  refine Nat.floor_lt' (Nat.succ_ne_zero _) |>.mpr ?_
  push_cast
  linarith

/-- Settles O41: the threshold's two bounds are those of a floor, and in a legal set one of at most `PERIOD`
fits its field. -/
theorem brightnessRoundsHalfUpOrIsRefused : Obligations.BrightnessRoundsHalfUpOrIsRefused := by
  intro p led b
  refine ⟨fun hb0 hb1 => ⟨glowbThreshold p b, if_pos ⟨hb0, hb1⟩, glowbThreshold_le p hb1, ?_, ?_, ?_⟩,
    fun hb => if_neg ?_⟩
  · exact Nat.floor_le (by positivity)
  · exact Nat.lt_floor_add_one _
  · intro hlegal hled
    obtain ⟨-, -, -, -, -, hperiod, -, -⟩ := Laws.legal_bounds hlegal
    exact (wellFormed_glow_iff p led _).mpr
      ⟨of_decide_eq_true hled, (glowbThreshold_le p hb1).trans_lt hperiod⟩
  · rintro ⟨hb0, hb1⟩
    obtain hneg | habove := hb
    · exact absurd hb0 hneg.not_ge
    · exact absurd hb1 habove.not_ge

/-! ### The duty cycle -/

/-- Whether the LED is on `k` cycles after the start, with one `STEP` after every `FAST_TICK` (R85). -/
def dutyLit (p : Config.Params) (th k : Nat) : Bool :=
  decide ((1 ≤ k % p.period ∧ k % p.period < th) ∨ (th = p.period ∧ 1 ≤ k))

section DutyLit

variable {p : Config.Params} {th k : Nat}

theorem succ_mod_period_of_lt (h : k % p.period + 1 < p.period) :
    (k + 1) % p.period = k % p.period + 1 := by
  rw [← Nat.mod_add_mod, Nat.mod_eq_of_lt h]

theorem succ_mod_period_of_eq (h : k % p.period + 1 = p.period) : (k + 1) % p.period = 0 := by
  rw [← Nat.mod_add_mod, h, Nat.mod_self]

/-- Below the wrap the LED is on exactly while `FC` is below the threshold. -/
theorem dutyLit_succ_of_lt (h : k % p.period + 1 < p.period) :
    dutyLit p th (k + 1) = decide (k % p.period + 1 < th) := by
  rw [dutyLit, succ_mod_period_of_lt h]
  exact decide_eq_decide.mpr (by omega)

/-- The wrap leaves the LED as the last residue of the `PERIOD` had it: on at threshold `PERIOD` alone. -/
theorem dutyLit_succ_of_wrap (hperiod : 2 ≤ p.period) (hth : th ≤ p.period)
    (h : k % p.period + 1 = p.period) : dutyLit p th (k + 1) = dutyLit p th k := by
  have hk : k % p.period ≤ k := Nat.mod_le _ _
  rw [dutyLit, dutyLit, succ_mod_period_of_eq h]
  exact decide_eq_decide.mpr (by omega)

end DutyLit

/-- The residues `m` with `1 ≤ m < th` among the first `n` numbers. -/
theorem countP_range_one_le_lt (th n : Nat) :
    (List.range n).countP (fun m => decide (1 ≤ m ∧ m < th)) = min n th - 1 := by
  induction n with
  | zero => simp
  | succ n ih =>
    rw [List.range_succ, List.countP_append, ih, List.countP_singleton]
    simp only [decide_eq_true_eq]
    split <;> omega

/-- Of two writes of one LED the later one stands (R65). -/
theorem writeLed_writeLed (v : LedPattern) (idx : Nat) (lit lit' : Bool) :
    writeLed (writeLed v idx lit) idx lit' = writeLed v idx lit' := by
  refine BitVec.eq_of_getLsbD_eq fun i hi => ?_
  rw [writeLed_getLsbD _ _ _ hi, writeLed_getLsbD _ _ _ hi, writeLed_getLsbD _ _ _ hi]
  split <;> rfl

theorem writeLed_zero_false (idx : Nat) : writeLed 0#4 idx false = 0#4 := by
  refine BitVec.eq_of_getLsbD_eq fun i hi => ?_
  rw [writeLed_getLsbD _ _ _ hi, BitVec.getLsbD_zero, ite_self]

/-- When the LED agreed with `ON`, commanding it writes it, whether or not a request was needed (R73). -/
theorem commandLed_ledOut {s : State} {v : LedPattern} {idx : Nat} (lit : Bool)
    (hout : s.ledOut = writeLed v idx s.onState) :
    (s.commandLed idx lit).ledOut = writeLed v idx lit := by
  by_cases hon : s.onState = lit
  · rw [commandLed_of_eq s idx lit hon, hout, hon]
  · rw [commandLed_of_ne s idx lit hon, setledOp_eq]
    exact (congrArg (writeLed · idx lit) hout).trans (writeLed_writeLed v idx s.onState lit)

/-- The state `k` cycles of `FAST_TICK` and `STEP` after `GLOW led, th` out of `ResetState` (R85). -/
structure DutyPhase (p : Config.Params) (led th k : Nat) (s : State) : Prop where
  fc : s.fc = k % p.period
  mode : s.mode = .glow
  gth : s.gth = th
  ledsel : s.ledsel = led
  onState : s.onState = dutyLit p th k
  ledOut : s.ledOut = writeLed 0#4 led s.onState

section DutyPhase

variable {p : Config.Params} {led th k : Nat} {s : State}

/-- A cycle of `FAST_TICK` and `STEP` of the Glow Driver is one `APPLY` after the tick (R82, R102). -/
theorem stepFor_of_fastStepCycle {rest : List Inputs} (hin : s.inputs = fastStepCycle :: rest)
    (hmode : s.mode = .glow) :
    stepFor p s = .next (applyOp p s.ledsel s.gth (fastTickOp p (beginCycle s))) := by
  have hdec : decodeInputs p fastStepCycle = [.fastTick, .step] := rfl
  rw [stepFor_of_not_rst hin rfl, hdec, runOps_cons, execFor_fastTick, andThen_next, runOps_singleton,
    execFor_step, stepOp_of_glow p (by exact hmode)]
  rfl

/-- Ticked to its next value, `FC` either lies below `PERIOD`, where `APPLY` commands the LED, or has reached it,
where `APPLY` wraps it. -/
theorem DutyPhase.applyOp_fastTick (hs : DutyPhase p led th k s) (hperiod : 2 ≤ p.period)
    (hfits : p.period < 2 ^ p.fcWidth) (hth : th ≤ p.period) :
    DutyPhase p led th (k + 1) (applyOp p s.ledsel s.gth (fastTickOp p (beginCycle s))) := by
  have hlt : k % p.period < p.period := Nat.mod_lt _ (by omega)
  have hfc : (fastTickOp p (beginCycle s)).fc = k % p.period + 1 := by
    rw [fastTickOp, setFc_fc, beginCycle_fc, hs.fc, bumpFc_of_lt (by omega)]
  rw [hs.ledsel, hs.gth]
  obtain hbelow | hwrap := Nat.lt_or_eq_of_le hlt
  · -- below `PERIOD`: the LED is commanded to what `FC < th` says
    have happly : applyOp p led th (fastTickOp p (beginCycle s)) =
        (fastTickOp p (beginCycle s)).commandLed led (decide (k % p.period + 1 < th)) := by
      by_cases hon : k % p.period + 1 < th
      · rw [applyOp_of_below led (by omega), decide_eq_true hon]
      · rw [applyOp_of_between led (by omega) (by omega), decide_eq_false hon]
    rw [happly, ← dutyLit_succ_of_lt hbelow]
    exact ⟨hfc.trans (succ_mod_period_of_lt hbelow).symm, hs.mode, hs.gth, hs.ledsel, rfl,
      commandLed_ledOut _ hs.ledOut⟩
  · -- at `PERIOD`: `FC` wraps and the LED is left alone
    rw [applyOp_of_wrap led (by omega) (by omega)]
    exact ⟨(succ_mod_period_of_eq hwrap).symm, hs.mode, hs.gth, hs.ledsel,
      hs.onState.trans (dutyLit_succ_of_wrap hperiod hth hwrap).symm, hs.ledOut⟩

/-- `n` more cycles take the driver from phase `k` to phase `k + n`. -/
theorem DutyPhase.run (n : Nat) (hs : DutyPhase p led th k s)
    (hin : s.inputs = List.replicate n fastStepCycle) (hperiod : 2 ≤ p.period)
    (hfits : p.period < 2 ^ p.fcWidth) (hth : th ≤ p.period) :
    ∃ t : State, (coreFor p).run n s = .next t ∧ DutyPhase p led th (k + n) t := by
  induction n generalizing k s with
  | zero => exact ⟨s, rfl, hs⟩
  | succ n ih =>
    have hstep := stepFor_of_fastStepCycle (p := p) (hin.trans List.replicate_succ) hs.mode
    obtain ⟨hin', -, -⟩ := stepFor_bookkeeping hstep
    rw [coreFor_run_of_step n hstep, Nat.add_comm n, ← Nat.add_assoc]
    exact ih (hs.applyOp_fastTick hperiod hfits hth) (by rw [hin', hin, List.replicate_succ, List.tail_cons])

/-- The first cycle out of `ResetState` runs the `GLOW` that is presented (R80, R102). -/
theorem stepFor_reset_of_encode_glow (rest : List Inputs) (hlegal : p.legal = true)
    (hwf : (Instr.glow led th).wellFormed p = true) :
    stepFor p { State.reset with inputs := (encode p (.glow led th)).inputs :: rest } =
      .next (glowStart p led th { State.reset with inputs := rest, cycle := 1 }) := by
  obtain ⟨hdec, -⟩ := decodeEncodeRoundTrip p (.glow led th) hlegal hwf
  rw [stepFor_of_decodeInputs_singleton rfl (code_inputs_rst _) ((decodeInputs_code_inputs p _).trans hdec)]
  rfl

/-- The driver start out of `ResetState` is phase 0: `FC` is 0 and every LED is off. -/
theorem dutyPhase_glowStart_reset (hth : th ≤ p.period) (rest : List Inputs) (n : Nat) :
    DutyPhase p led th 0 (glowStart p led th { State.reset with inputs := rest, cycle := n }) := by
  have hoff : dutyLit p th 0 = false := by simp [dutyLit]
  rw [glowStart_of_idle led rfl hth]
  exact ⟨(Nat.zero_mod _).symm, rfl, rfl, rfl, hoff.symm, (writeLed_zero_false led).symm⟩

end DutyPhase

/-- Settles O40: `DutyPhase` gives the registers, and the bits of `LED_OUT` are those of one LED written with
`ON`. -/
theorem glowDutyCycleWithOneStepPerTick : Obligations.GlowDutyCycleWithOneStepPerTick := by
  refine ⟨fun p led th k hlegal hperiod hled hth => ?_, fun p th _ hlt => ?_⟩
  · obtain ⟨-, -, -, hfits, -, hthfits, -, hledfits⟩ := Laws.legal_bounds hlegal
    have hwf : (Instr.glow led th).wellFormed p = true :=
      (wellFormed_glow_iff p led th).mpr ⟨hled.trans hledfits, hth.trans_lt hthfits⟩
    have hstart := dutyPhase_glowStart_reset (led := led) hth (List.replicate k fastStepCycle) 1
    obtain ⟨t, hrun, ht⟩ := hstart.run k (by rw [glowStart_of_idle led rfl hth]) hperiod hfits hth
    rw [Nat.zero_add] at ht
    have hbit : ∀ j < 4, t.ledPort.getLsbD j = if led = j then dutyLit p th k else false := by
      intro j hj
      rw [State.ledPort, ht.ledOut, ht.onState, writeLed_getLsbD _ _ _ hj, BitVec.getLsbD_zero]
    refine ⟨t, ?_, ht.fc, ht.mode, ht.gth, ht.ledsel, ?_, fun j hj hne => ?_⟩
    · rw [coreFor_run_of_step k (stepFor_reset_of_encode_glow _ hlegal hwf)]
      exact hrun
    · rw [hbit led hled, if_pos rfl, dutyLit, decide_eq_true_eq]
    · rw [hbit j hj, if_neg hne.symm]
  · rw [countP_range_one_le_lt, Nat.min_eq_right hlt.le]

end Sys2Proof.Machine

/-! SUPPORT. The obligations of spec/44_pulse_glow_driver.md: the driver start of `PULSE` (R87), the poll of the
Pulse Glow Driver and its direction table (R88, R89, R90, R93), the ramp's ping-pong (R91) and its pace with the
defaults (R92), with the lemmas they are assembled from. -/

namespace Sys2Proof.Machine

/-! ### The driver start -/

/-- An accepted `PULSE` (R87). -/
theorem pulseStart_of_idle (led : Nat) {s : State} (hidle : s.mode = .idle) :
    pulseStart led s =
      { s with ramp := 0, dir := .unset, onState := false, ledsel := led, mode := .pulse } := by
  obtain ⟨-, e⟩ | ⟨hrun, -⟩ := pulseStart_cases led s
  · exact e
  · exact absurd hidle hrun

/-- Settles O43: accepted in mode IDLE, nothing in the other modes, and no parameter enters. -/
theorem pulseStartsTheDriver : Obligations.PulseStartsTheDriver := by
  refine ⟨by decide, fun led s => ⟨fun hidle => ?_, fun hrun => ?_⟩, fun p led s => ?_⟩
  · rw [exec_eq, execFor_pulse, pulseStart_of_idle led hidle]
  · rw [exec_eq, execFor_pulse, pulseStart_of_running led hrun]
  · rw [exec_eq, execFor_pulse, execFor_pulse]

/-! ### The two halves of the direction table -/

/-- The rows of R89 that choose +1: climbing below `PERIOD`, or not climbing at 0, the tie-break of R93
included. -/
def Climbs (p : Config.Params) (d : Dir) (ramp : Nat) : Prop :=
  (d = .up ∧ ramp < p.period) ∨ (d ≠ .up ∧ ramp = 0)

/-- The rows of R89 that choose -1: climbing at `PERIOD` or beyond, or not climbing above 0. -/
def Descends (p : Config.Params) (d : Dir) (ramp : Nat) : Prop :=
  (d = .up ∧ p.period ≤ ramp) ∨ (d ≠ .up ∧ 0 < ramp)

theorem chooseDir_of_climbs {p : Config.Params} {d : Dir} {ramp : Nat} (h : Climbs p d ramp) :
    chooseDir p d ramp = .up := by
  rw [chooseDir_eq]
  obtain ⟨hup, hlt⟩ | ⟨hne, rfl⟩ := h
  · rw [if_pos hup, if_pos hlt]
  · rw [if_neg hne, if_neg (Nat.lt_irrefl 0)]

theorem chooseDir_of_descends {p : Config.Params} {d : Dir} {ramp : Nat} (h : Descends p d ramp) :
    chooseDir p d ramp = .down := by
  rw [chooseDir_eq]
  obtain ⟨hup, hge⟩ | ⟨hne, hpos⟩ := h
  · rw [if_pos hup, if_neg hge.not_gt]
  · rw [if_neg hne, if_pos hpos]

theorem passGate_dir (p : Config.Params) (s : State) :
    (passGate p s).dir = chooseDir p s.dir s.ramp := rfl

theorem passGate_ramp (p : Config.Params) (s : State) :
    (passGate p s).ramp = rampPlusDir p s.ramp (chooseDir p s.dir s.ramp) := rfl

/-- `APPLY` leaves what the direction selection reads as it was, so the gate sees the old `DIR` and `RAMP`. -/
theorem passGate_applyOp_dir_ramp (p : Config.Params) (idx t : Nat) (s : State) :
    (passGate p (applyOp p idx t s)).dir = (passGate p s).dir ∧
    (passGate p (applyOp p idx t s)).ramp = (passGate p s).ramp := by
  simp only [passGate_dir, passGate_ramp, applyOp_dir, applyOp_ramp, and_self]

section PassGate

variable {p : Config.Params} {s : State}

/-- Up: the addition does not wrap, since the ramp climbs only below `PERIOD` (R89, R90). -/
theorem passGate_of_climbs (hlegal : p.legal = true) (h : Climbs p s.dir s.ramp) :
    (passGate p s).dir = .up ∧ (passGate p s).ramp = s.ramp + 1 := by
  obtain ⟨hperiod, -, -, -, -, hth, -⟩ := Laws.legal_bounds hlegal
  have hlt : s.ramp < p.period := by
    obtain ⟨-, hlt⟩ | ⟨-, hzero⟩ := h <;> omega
  rw [passGate_dir, passGate_ramp, chooseDir_of_climbs h, rampPlusDir_up, Nat.mod_eq_of_lt (by omega)]
  exact ⟨rfl, rfl⟩

/-- Down, from any `RAMP`: the ramp descends only above 0 (R89, R90). -/
theorem passGate_of_descends (hlegal : p.legal = true) (h : Descends p s.dir s.ramp) :
    (passGate p s).dir = .down ∧ (passGate p s).ramp = (s.ramp - 1) % 2 ^ p.thWidth := by
  obtain ⟨hperiod, -⟩ := Laws.legal_bounds hlegal
  have hpos : 0 < s.ramp := by
    obtain ⟨-, hge⟩ | ⟨-, hpos⟩ := h <;> omega
  rw [passGate_dir, passGate_ramp, chooseDir_of_descends h, rampPlusDir_down p hpos]
  exact ⟨rfl, rfl⟩

/-- Down, from a `RAMP` that R22 allows: the subtraction fits the width. -/
theorem passGate_of_descends_of_le (hlegal : p.legal = true) (h : Descends p s.dir s.ramp)
    (hramp : s.ramp ≤ p.period) :
    (passGate p s).dir = .down ∧ (passGate p s).ramp = s.ramp - 1 := by
  obtain ⟨-, -, -, -, -, hth, -⟩ := Laws.legal_bounds hlegal
  obtain ⟨hdir, e⟩ := passGate_of_descends hlegal h
  exact ⟨hdir, e.trans (Nat.mod_eq_of_lt (by omega))⟩

end PassGate

/-- Settles O45: the rows up and the rows down, and no choice is 0. -/
theorem rampStepFollowsTheDirectionTable : Obligations.RampStepFollowsTheDirectionTable := by
  refine fun p s hlegal hramp => ⟨fun hup hlt => ?_, fun hup htop => ?_, fun hne hpos => ?_,
    fun hne hzero => ?_, chooseDir_ne_unset p s.dir s.ramp⟩
  · exact passGate_of_climbs hlegal (.inl ⟨hup, hlt⟩)
  · rw [← htop]
    exact passGate_of_descends_of_le hlegal (.inl ⟨hup, htop.ge⟩) hramp
  · exact passGate_of_descends_of_le hlegal (.inr ⟨hne, hpos⟩) hramp
  · obtain ⟨hdir, e⟩ := passGate_of_climbs hlegal (.inr ⟨hne, hzero⟩)
    exact ⟨hdir, by rw [e, hzero]⟩

/-! ### `STEP` by the gate -/

section StepInPulse

variable {p : Config.Params} {s : State}

/-- Short of the gate `STEP` is `APPLY` with `RAMP` (R88). -/
theorem stepOp_of_gate_closed (hmode : s.mode = .pulse) (hsc : s.sc < p.pulseRate) :
    stepOp p s = applyOp p s.ledsel s.ramp s := by
  rw [stepOp_of_pulse p hmode, pulseIter_eq, if_neg hsc.not_ge]

/-- At the gate `STEP` is `APPLY` with the old `RAMP`, and then steps 3 and 4 (R88). -/
theorem stepOp_of_gate_open (hmode : s.mode = .pulse) (hsc : p.pulseRate ≤ s.sc) :
    stepOp p s = passGate p (applyOp p s.ledsel s.ramp s) := by
  rw [stepOp_of_pulse p hmode, pulseIter_eq, if_pos hsc]

end StepInPulse

/-- Settles O44: the gate decides whether steps 3 and 4 follow `APPLY`, and these read the `DIR` and `RAMP` that
`APPLY` left alone. -/
theorem stepInPulseAppliesThenPassesTheGate : Obligations.StepInPulseAppliesThenPassesTheGate := by
  refine ⟨fun p s hlegal hmode => ⟨stepOp p s, rfl, stepOp_of_gate_closed hmode, fun hsc => ?_⟩,
    fun s hmode => ⟨stepOp Config.params s, exec_eq .step s,
      stepOp_of_gate_closed (p := Config.params) hmode,
      stepOp_of_gate_open (p := Config.params) hmode⟩⟩
  obtain ⟨hdir, hramp⟩ := passGate_applyOp_dir_ramp p s.ledsel s.ramp s
  rw [stepOp_of_gate_open hmode hsc, hdir, hramp]
  refine ⟨?_, fun hup hlt => ?_, fun hup hge => ?_, fun hne hpos => ?_, fun hne hzero => ?_⟩
  · rw [← hdir, ← hramp]; rfl
  · exact passGate_of_climbs hlegal (.inl ⟨hup, hlt⟩)
  · exact passGate_of_descends hlegal (.inl ⟨hup, hge⟩)
  · exact passGate_of_descends hlegal (.inr ⟨hne, hpos⟩)
  · obtain ⟨hd, e⟩ := passGate_of_climbs hlegal (.inr ⟨hne, hzero⟩)
    exact ⟨hd, by rw [e, hzero]⟩

/-- Settles O47: `DIR` = 0 at `RAMP` = 0 is a row that climbs. -/
theorem firstGatedStepClimbs : Obligations.FirstGatedStepClimbs := by
  intro p s hlegal hmode hzero hunset hsc
  have hclimbs : Climbs p s.dir s.ramp := .inr ⟨by simp [hunset], hzero⟩
  obtain ⟨hdir, hramp⟩ := passGate_applyOp_dir_ramp p s.ledsel s.ramp s
  obtain ⟨hup, hone⟩ := passGate_of_climbs hlegal hclimbs
  refine ⟨stepOp p s, rfl, ?_⟩
  rw [stepOp_of_gate_open hmode hsc, hdir, hramp, hup, hone, hzero]
  exact ⟨rfl, rfl, rfl⟩

/-- Settles O48: within R22's bounds one unit is added in the chosen direction, and the gate looks at `SC` no
further than that it is open. -/
theorem passedGateStepsOnceAndConsumesSurplus : Obligations.PassedGateStepsOnceAndConsumesSurplus := by
  intro p s hlegal hmode hle hsc
  obtain ⟨hdir, hramp⟩ := passGate_applyOp_dir_ramp p s.ledsel s.ramp s
  refine ⟨stepOp p s, rfl, ?_, ?_, fun v hv => ?_⟩
  · rw [stepOp_of_gate_open hmode hsc]; rfl
  · rw [stepOp_of_gate_open hmode hsc, hdir, hramp, passGate_dir, passGate_ramp]
    obtain ⟨-, hup, e⟩ | ⟨hpos, hdown, e⟩ := chooseDir_rampPlusDir s.dir hlegal hle
    · exact .inl ⟨hup, e⟩
    · exact .inr ⟨hdown, by omega⟩
  · exact congrArg Host.Outcome.next (stepOp_setSc_of_gate hmode hsc hv)

/-! ### The ping-pong sequence -/

section PingPong

variable {p : Config.Params} {n : Nat}

theorem pingPong_eq (p : Config.Params) (n : Nat) :
    pingPong p n =
      if n % (2 * p.period) ≤ p.period then n % (2 * p.period)
      else 2 * p.period - n % (2 * p.period) := rfl

/-- The place in the round of `2 * PERIOD` gates moves on by one, and starts again at the end. -/
theorem succ_mod_round (hperiod : 1 ≤ p.period) (n : Nat) :
    (n + 1) % (2 * p.period) =
      if n % (2 * p.period) + 1 = 2 * p.period then 0 else n % (2 * p.period) + 1 := by
  have hlt : n % (2 * p.period) < 2 * p.period := Nat.mod_lt _ (by omega)
  rw [← Nat.mod_add_mod]
  split
  · next hend => rw [hend, Nat.mod_self]
  · next hend => exact Nat.mod_eq_of_lt (by omega)

theorem pingPong_le (p : Config.Params) (n : Nat) : pingPong p n ≤ p.period := by
  rw [pingPong_eq]
  split <;> omega

/-- The first half of the round: the next gate finds a row that climbs, and one more is the next value. -/
theorem pingPong_first_half (hperiod : 1 ≤ p.period) (h : n % (2 * p.period) < p.period) :
    Climbs p (pingPongDir p n) (pingPong p n) ∧ pingPongDir p (n + 1) = .up ∧
      pingPong p (n + 1) = pingPong p n + 1 := by
  have hn : pingPong p n = n % (2 * p.period) := by rw [pingPong_eq, if_pos h.le]
  have hsucc : (n + 1) % (2 * p.period) = n % (2 * p.period) + 1 := by
    rw [succ_mod_round hperiod, if_neg (by omega)]
  refine ⟨?_, ?_, ?_⟩
  · rw [Climbs, hn]
    obtain hzero | hpos := Nat.eq_zero_or_pos (n % (2 * p.period))
    · refine .inr ⟨?_, hzero⟩
      rw [pingPongDir, hzero]
      split <;> simp
    · refine .inl ⟨?_, h⟩
      rw [pingPongDir, if_neg (by rintro rfl; simp at hpos), if_pos ⟨hpos, h.le⟩]
  · rw [pingPongDir, hsucc, if_neg n.succ_ne_zero, if_pos (by omega)]
  · rw [hn, pingPong_eq, hsucc, if_pos (by omega)]

/-- The second half of the round: the next gate finds a row that descends, and one less is the next value. -/
theorem pingPong_second_half (hperiod : 1 ≤ p.period) (h : p.period ≤ n % (2 * p.period)) :
    Descends p (pingPongDir p n) (pingPong p n) ∧ pingPongDir p (n + 1) = .down ∧
      pingPong p (n + 1) = pingPong p n - 1 := by
  have hlt : n % (2 * p.period) < 2 * p.period := Nat.mod_lt _ (by omega)
  have hn : pingPong p n = 2 * p.period - n % (2 * p.period) := by
    rw [pingPong_eq]; split <;> omega
  have hsucc := succ_mod_round hperiod n
  refine ⟨?_, ?_, ?_⟩
  · have hne : n ≠ 0 := by rintro rfl; rw [Nat.zero_mod] at h; omega
    rw [Descends, hn, pingPongDir, if_neg hne]
    obtain htop | hbeyond := h.eq_or_lt
    · exact .inl ⟨if_pos (by omega), by omega⟩
    · refine .inr ⟨?_, by omega⟩
      rw [if_neg (by omega)]; simp
  · rw [pingPongDir, hsucc, if_neg n.succ_ne_zero]
    exact if_neg (by split <;> omega)
  · rw [hn, pingPong_eq, hsucc]
    split <;> split <;> omega

end PingPong

/-- `RAMP` and `DIR` are what `n` passed gates from 0 leave (R91). -/
structure PingPongPhase (p : Config.Params) (n : Nat) (s : State) : Prop where
  ramp : s.ramp = pingPong p n
  dir : s.dir = pingPongDir p n

theorem pingPongPhase_zero {p : Config.Params} {s : State} (hramp : s.ramp = 0) (hdir : s.dir = .unset) :
    PingPongPhase p 0 s where
  ramp := by rw [hramp, pingPong_eq, Nat.zero_mod, if_pos (Nat.zero_le _)]
  dir := hdir

/-- A passed gate takes the ramp to its next phase: one unit up in the first half of the round, one down in the
second. -/
theorem PingPongPhase.passGate {p : Config.Params} {n : Nat} {s : State} (hs : PingPongPhase p n s)
    (hlegal : p.legal = true) : PingPongPhase p (n + 1) (passGate p s) := by
  obtain ⟨hperiod, -⟩ := Laws.legal_bounds hlegal
  obtain hfirst | hsecond := Nat.lt_or_ge (n % (2 * p.period)) p.period
  · obtain ⟨hclimbs, hdir, hramp⟩ := pingPong_first_half hperiod hfirst
    rw [← hs.ramp, ← hs.dir] at hclimbs
    obtain ⟨hd, hr⟩ := passGate_of_climbs hlegal hclimbs
    exact ⟨by rw [hr, hramp, hs.ramp], hd.trans hdir.symm⟩
  · obtain ⟨hdescends, hdir, hramp⟩ := pingPong_second_half hperiod hsecond
    have hle : s.ramp ≤ p.period := hs.ramp.trans_le (pingPong_le p n)
    rw [← hs.ramp, ← hs.dir] at hdescends
    obtain ⟨hd, hr⟩ := passGate_of_descends_of_le hlegal hdescends hle
    exact ⟨by rw [hr, hramp, hs.ramp], hd.trans hdir.symm⟩

theorem PingPongPhase.timesDo_passGate {p : Config.Params} {k : Nat} {s : State}
    (hs : PingPongPhase p k s) (hlegal : p.legal = true) (n : Nat) :
    PingPongPhase p (k + n) (timesDo (Machine.passGate p) n s) := by
  induction n generalizing k s with
  | zero => exact hs
  | succ n ih =>
    rw [← Nat.add_assoc, Nat.add_right_comm]
    exact ih (hs.passGate hlegal)

/-- Settles O46: the start is phase 0, and each passed gate takes the ramp one phase on. -/
theorem rampPingPongsBetweenZeroAndPeriod : Obligations.RampPingPongsBetweenZeroAndPeriod := by
  intro p n s hlegal hramp hdir
  have hphase := (pingPongPhase_zero (p := p) hramp hdir).timesDo_passGate hlegal n
  rw [Nat.zero_add] at hphase
  exact ⟨hphase.ramp, hphase.dir, hphase.ramp.trans_le (pingPong_le p n)⟩

/-! ### The pace of the ramp -/

/-- The Pulse Glow Driver after `n` passed gates, with `sc` gathered since the last. -/
structure PulsePhase (p : Config.Params) (n sc : Nat) (s : State) : Prop extends PingPongPhase p n s where
  mode : s.mode = .pulse
  sc : s.sc = sc

section PulsePhase

variable {p : Config.Params} {n sc : Nat} {s : State}

/-- A cycle of `SLOW_TICK` and `STEP` is the `STEP` after the tick (R102). -/
theorem stepFor_of_slowStepCycle {rest : List Inputs} (hin : s.inputs = slowStepCycle :: rest) :
    stepFor p s = .next (stepOp p (slowTickOp p (beginCycle s))) := by
  have hdec : decodeInputs p slowStepCycle = [.slowTick, .step] := rfl
  rw [stepFor_of_not_rst hin rfl, hdec, runOps_cons, execFor_slowTick, andThen_next, runOps_singleton,
    execFor_step]

/-- A slow tick from below the gate does not overflow `SC` and touches nothing else (R61). -/
theorem PulsePhase.slowTick (hs : PulsePhase p n sc s) (hlegal : p.legal = true)
    (hsc : sc < p.pulseRate) : PulsePhase p n (sc + p.slowInc) (slowTickOp p (beginCycle s)) := by
  obtain ⟨-, -, -, -, hroom, -⟩ := Laws.legal_bounds hlegal
  refine ⟨⟨hs.ramp, hs.dir⟩, hs.mode, ?_⟩
  rw [slowTickOp, setSc_sc, beginCycle_sc, hs.sc, bumpSc_of_lt (by omega)]

/-- A poll before the gate keeps the phase and what `SC` has gathered. -/
theorem PulsePhase.stepOp_of_closed (hs : PulsePhase p n sc s) (hsc : sc < p.pulseRate) :
    PulsePhase p n sc (stepOp p s) := by
  rw [stepOp_of_gate_closed hs.mode (hs.sc.trans_lt hsc)]
  exact ⟨⟨(applyOp_ramp p s.ledsel s.ramp s).trans hs.ramp, (applyOp_dir p s.ledsel s.ramp s).trans hs.dir⟩,
    (applyOp_mode p s.ledsel s.ramp s).trans hs.mode, (applyOp_sc p s.ledsel s.ramp s).trans hs.sc⟩

/-- A poll at the gate takes the ramp to its next phase and consumes `SC`. -/
theorem PulsePhase.stepOp_of_open (hs : PulsePhase p n sc s) (hlegal : p.legal = true)
    (hsc : p.pulseRate ≤ sc) : PulsePhase p (n + 1) 0 (stepOp p s) := by
  obtain ⟨hdir, hramp⟩ := passGate_applyOp_dir_ramp p s.ledsel s.ramp s
  have hnext := hs.toPingPongPhase.passGate hlegal
  rw [stepOp_of_gate_open hs.mode (hs.sc ▸ hsc)]
  exact ⟨⟨hramp.trans hnext.ramp, hdir.trans hnext.dir⟩, (applyOp_mode p s.ledsel s.ramp s).trans hs.mode,
    rfl⟩

/-- Where two slow ticks open the gate and one does not, `2 * m` cycles of `SLOW_TICK` and `STEP` pass it `m`
times (R92). -/
theorem PulsePhase.run (m : Nat) (hs : PulsePhase p n 0 s)
    (hin : s.inputs = List.replicate (2 * m) slowStepCycle) (hlegal : p.legal = true)
    (hone : p.slowInc < p.pulseRate) (htwo : p.pulseRate ≤ p.slowInc + p.slowInc) :
    ∃ t : State, (coreFor p).run (2 * m) s = .next t ∧ PulsePhase p (n + m) 0 t := by
  induction m generalizing n s with
  | zero => exact ⟨s, rfl, hs⟩
  | succ m ih =>
    have hin1 : s.inputs = slowStepCycle :: slowStepCycle :: List.replicate (2 * m) slowStepCycle := hin
    have hstep1 := stepFor_of_slowStepCycle (p := p) hin1
    have hmid := (hs.slowTick hlegal (by omega)).stepOp_of_closed (by omega)
    obtain ⟨hin2, -, -⟩ := stepFor_bookkeeping hstep1
    rw [hin1, List.tail_cons] at hin2
    have hstep2 := stepFor_of_slowStepCycle (p := p) hin2
    have hend := (hmid.slowTick hlegal (by omega)).stepOp_of_open hlegal (by omega)
    obtain ⟨hin3, -, -⟩ := stepFor_bookkeeping hstep2
    rw [hin2, List.tail_cons] at hin3
    rw [Nat.mul_succ, coreFor_run_of_step _ hstep1, coreFor_run_of_step _ hstep2,
      ← Nat.add_assoc, Nat.add_right_comm]
    exact ih hend hin3

end PulsePhase

/-- Settles O49: with the defaults one slow tick leaves `SC` at 5, short of the gate at 10, and two open it. -/
theorem rampAdvancesEverySecondSlowTick : Obligations.RampAdvancesEverySecondSlowTick := by
  intro n s hmode hramp hdir hsc hin
  have hstart : PulsePhase Config.params 0 0 s := ⟨pingPongPhase_zero hramp hdir, hmode, hsc⟩
  obtain ⟨t, hrun, ht⟩ := hstart.run n hin Laws.params_legal (by decide) (by decide)
  rw [Nat.zero_add] at ht
  exact ⟨t, (core_run_eq (2 * n) s).trans hrun, ht.ramp, ht.dir, ht.sc, ht.mode⟩

end Sys2Proof.Machine

/-! SUPPORT. The obligations of spec/45_control.md: `NOP` and `RSVD` (R97, R98), when a command is accepted (R99),
`STEP` in mode IDLE (R101), and the four stages of a cycle (R102) with its one request (R103), with the lemmas they
are assembled from. -/

namespace Sys2Proof.Machine

/-! ### Operations that do nothing -/

/-- A command word whose `op` selects no command is nothing, in every mode (R97, R98). -/
theorem execFor_decodeCmd_of_unused_op {p : Config.Params} {w : Nat} (s : State)
    (hop : cmdOp p w = 0 ∨ 4 ≤ cmdOp p w) : execFor p (decodeCmd p w) s = .next s := by
  obtain hnop | hrsvd := hop
  · rw [decodeCmd_of_op_nop hnop, execFor_nop]
  · rw [decodeCmd_of_op_rsvd hrsvd, execFor_rsvd]

/-- Settles O50: with the defaults `op` is the word's number divided by 8192. -/
theorem nopAndReservedCommandsDoNothing : Obligations.NopAndReservedCommandsDoNothing := by
  refine ⟨fun s => ⟨exec_eq .nop s, exec_eq .rsvd s⟩, fun w s hw => ?_,
    fun p w s hop => execFor_decodeCmd_of_unused_op s hop⟩
  have hlt : w < 65536 := by omega
  have hop : cmdOp Config.params w = w / 8192 := cmdOp_of_lt hlt
  rw [exec_eq, execFor_decodeCmd_of_unused_op s (by omega)]

/-- Settles O52: `exec` is `execFor` at the defaults. -/
theorem stepInIdleChangesNothing : Obligations.StepInIdleChangesNothing := by
  refine ⟨fun s hidle => ?_, fun p s hidle => ?_⟩
  · rw [exec_eq, execFor_step, stepOp_of_idle Config.params hidle]
  · rw [execFor_step, stepOp_of_idle p hidle]

/-! ### The driver start -/

/-- Mode IDLE is left by an accepted `GLOW` or `PULSE` only, for its own mode (R99). -/
theorem execFor_mode_of_idle {p : Config.Params} {i : Instr} {s t : State} (hidle : s.mode = .idle)
    (h : execFor p i s = .next t) :
    t.mode = .idle ∨ (∃ led th, i = .glow led th ∧ t.mode = .glow) ∨
      (∃ led, i = .pulse led ∧ t.mode = .pulse) := by
  cases i with
  | fastTick => cases h; exact .inl hidle
  | slowTick => cases h; exact .inl hidle
  | step => cases h; rw [stepOp_of_idle p hidle]; exact .inl hidle
  | nop => cases h; exact .inl hidle
  | rsvd => cases h; exact .inl hidle
  | setled led lit => cases h; rw [setledCommand_of_idle led lit hidle]; exact .inl hidle
  | glow led th =>
    cases h
    obtain ⟨-, -, e⟩ | ⟨-, e⟩ := glowStart_cases p led th s
    · rw [e]; exact .inr (.inl ⟨led, th, rfl, rfl⟩)
    · rw [e]; exact .inl hidle
  | pulse led => cases h; rw [pulseStart_of_idle led hidle]; exact .inr (.inr ⟨led, rfl, rfl⟩)

/-- Settles O51: a running driver ignores commands and is kept by every operation, so `MODE` changes from IDLE
alone. -/
theorem commandsActInIdleOnlyAndStartOneDriver : Obligations.CommandsActInIdleOnlyAndStartOneDriver := by
  refine ⟨fun p w s hrun => execFor_command_of_running p hrun (decodeCmd_isCommand p w),
    fun p i s t h hne => ?_⟩
  have hidle : s.mode = .idle := by
    by_contra hrun
    exact hne (execFor_sameDriver hrun h).mode
  obtain hstay | hstart := execFor_mode_of_idle hidle h
  · exact absurd (hstay.trans hidle.symm) hne
  · exact ⟨hidle, hstart⟩

/-! ### The four stages of a cycle -/

/-- One line of R102: the operation runs if its input selects it, and otherwise nothing happens. -/
structure RunsIf (p : Config.Params) (selected : Bool) (i : Instr) (s t : State) : Prop where
  runs : selected = true → execFor p i s = .next t
  skips : selected = false → t = s

theorem RunsIf.cases {p : Config.Params} {selected : Bool} {i : Instr} {s t : State}
    (h : RunsIf p selected i s t) :
    t = s ∨ execFor p i s = .next t := by
  cases selected with
  | false => exact .inl (h.skips rfl)
  | true => exact .inr (h.runs rfl)

/-- An operation that stands first if it is selected runs before the rest. -/
theorem exists_runsIf (p : Config.Params) (selected : Bool) (i : Instr) (s : State) :
    ∃ t, RunsIf p selected i s t ∧ ∀ ops,
      runOps (execFor p) ((if selected then [i] else []) ++ ops) s = runOps (execFor p) ops t := by
  cases selected with
  | false => exact ⟨s, ⟨nofun, fun _ => rfl⟩, fun _ => rfl⟩
  | true =>
    obtain ⟨t, ht⟩ := execFor_next p i s
    refine ⟨t, ⟨fun _ => ht, nofun⟩, fun ops => ?_⟩
    rw [if_pos rfl, List.singleton_append, runOps_cons, ht, andThen_next]

/-- The operations that a sample selects run line by line, each on the state the line before left (R102). -/
theorem runOps_decodeInputs_stages (p : Config.Params) (inp : Inputs) (s : State) :
    ∃ a b c d, RunsIf p inp.fastTick .fastTick s a ∧ RunsIf p inp.slowTick .slowTick a b ∧
      RunsIf p inp.cmdValid (decodeCmd p inp.cmd) b c ∧ RunsIf p inp.stepEn .step c d ∧
      runOps (execFor p) (decodeInputs p inp) s = .next d := by
  obtain ⟨a, hfast, runFast⟩ := exists_runsIf p inp.fastTick .fastTick s
  obtain ⟨b, hslow, runSlow⟩ := exists_runsIf p inp.slowTick .slowTick a
  obtain ⟨c, hcmd, runCmd⟩ := exists_runsIf p inp.cmdValid (decodeCmd p inp.cmd) b
  obtain ⟨d, hstep, runStep⟩ := exists_runsIf p inp.stepEn .step c
  refine ⟨a, b, c, d, hfast, hslow, hcmd, hstep, ?_⟩
  rw [decodeInputs, List.append_assoc, List.append_assoc, runFast, runSlow, runCmd,
    ← List.append_nil (if inp.stepEn then _ else _), runStep, runOps_nil]

/-- Settles O11: a sample with `rst` = 1 is a reset, any other runs in its four stages. -/
theorem cycleRunsTicksThenCommandThenStep : Obligations.CycleRunsTicksThenCommandThenStep := by
  intro p s inp rest hin
  refine ⟨fun hrst => ⟨_, stepFor_of_rst hin hrst, rfl, rfl⟩, fun hrst => ?_⟩
  obtain ⟨a, b, c, d, hfast, hslow, hcmd, hstep, hrun⟩ := runOps_decodeInputs_stages p inp (beginCycle s)
  exact ⟨a, b, c, d, hfast.runs, hfast.skips, hslow.runs, hslow.skips, hcmd.runs, hcmd.skips, hstep.runs,
    hstep.skips, (stepFor_of_not_rst hin hrst).trans hrun⟩

/-! ### The request of a cycle -/

/-- From `s` to `t`, within one cycle, one LED request was emitted. -/
def EmitsOne (s t : State) : Prop := ∃ r, t.cycleReqs = s.cycleReqs ++ [r]

/-- From `s` to `t`, the operation is one that may emit: a `SETLED` in mode IDLE, which stays, or a `STEP` of a
running driver (R103). -/
def MayEmit (i : Instr) (s t : State) : Prop :=
  (∃ led lit, i = .setled led lit ∧ s.mode = .idle ∧ t.mode = .idle) ∨ (i = .step ∧ s.mode ≠ .idle)

section Requests

variable {p : Config.Params} {s t : State}

theorem EmitsOne.length_le (h : EmitsOne s t) (hnone : s.cycleReqs = []) : t.cycleReqs.length ≤ 1 := by
  obtain ⟨r, e⟩ := h
  rw [e, hnone, List.nil_append, List.length_singleton]

theorem applyOp_cycleReqs_or_emitsOne (p : Config.Params) (idx th : Nat) (s : State) :
    (applyOp p idx th s).cycleReqs = s.cycleReqs ∨ EmitsOne s (applyOp p idx th s) := by
  obtain ⟨-, -, e⟩ | ⟨-, -, e⟩ | ⟨-, -, -, e⟩ | ⟨-, -, -, e⟩ | ⟨-, -, e⟩ := applyOp_cases p idx th s
  · rw [e]; exact .inl rfl
  · rw [e]; exact .inr ⟨_, rfl⟩
  · rw [e]; exact .inl rfl
  · rw [e]; exact .inr ⟨_, rfl⟩
  · rw [e]; exact .inl rfl

/-- `STEP` emits what the `APPLY` of a running driver emits (R72). -/
theorem stepOp_cycleReqs_or_emitsOne (p : Config.Params) (s : State) :
    (stepOp p s).cycleReqs = s.cycleReqs ∨ (s.mode ≠ .idle ∧ EmitsOne s (stepOp p s)) := by
  by_cases hidle : s.mode = .idle
  · rw [stepOp_of_idle p hidle]; exact .inl rfl
  · obtain ⟨th, hth⟩ := exists_effectiveThreshold hidle
    obtain ⟨ramp, dir, sc, e⟩ := stepOp_of_effectiveThreshold p hth
    rw [e]
    exact (applyOp_cycleReqs_or_emitsOne p s.ledsel th s).imp_right fun hone => ⟨hidle, hone⟩

/-- A command that may emit leaves the mode IDLE. -/
theorem MayEmit.idle_of_command {i : Instr} (h : MayEmit i s t) (hi : i.isCommand = true) :
    t.mode = .idle := by
  obtain ⟨_, _, -, -, hidle⟩ | ⟨rfl, -⟩ := h
  · exact hidle
  · cases hi

theorem not_mayEmit_fastTick : ¬ MayEmit .fastTick s t := by
  rintro (⟨_, _, ⟨⟩, -⟩ | ⟨⟨⟩, -⟩)

theorem not_mayEmit_slowTick : ¬ MayEmit .slowTick s t := by
  rintro (⟨_, _, ⟨⟩, -⟩ | ⟨⟨⟩, -⟩)

theorem not_mayEmit_step_of_idle (hidle : s.mode = .idle) : ¬ MayEmit .step s t := by
  rintro (⟨_, _, ⟨⟩, -⟩ | ⟨-, hrun⟩)
  exact hrun hidle

/-- An operation emits nothing, or one request if it is one that may (R103). -/
theorem execFor_cycleReqs_or_emitsOne {i : Instr} (h : execFor p i s = .next t) :
    t.cycleReqs = s.cycleReqs ∨ (EmitsOne s t ∧ MayEmit i s t) := by
  cases i with
  | fastTick => cases h; exact .inl rfl
  | slowTick => cases h; exact .inl rfl
  | step =>
    cases h
    exact (stepOp_cycleReqs_or_emitsOne p s).imp_right fun ⟨hrun, hone⟩ => ⟨hone, .inr ⟨rfl, hrun⟩⟩
  | nop => cases h; exact .inl rfl
  | rsvd => cases h; exact .inl rfl
  | glow led th => cases h; exact .inl (glowStart_ledOut_cycleReqs p led th s).right
  | pulse led => cases h; exact .inl (pulseStart_ledOut_cycleReqs led s).right
  | setled led lit =>
    cases h
    obtain ⟨hidle, e⟩ | ⟨-, e⟩ := setledCommand_cases led lit s
    · rw [e]; exact .inr ⟨⟨_, rfl⟩, .inl ⟨led, lit, rfl, hidle, hidle⟩⟩
    · rw [e]; exact .inl rfl

theorem RunsIf.cycleReqs_or_emitsOne {selected : Bool} {i : Instr} (h : RunsIf p selected i s t) :
    t.cycleReqs = s.cycleReqs ∨ (EmitsOne s t ∧ MayEmit i s t) := by
  obtain rfl | hrun := h.cases
  · exact .inl rfl
  · exact execFor_cycleReqs_or_emitsOne hrun

theorem RunsIf.cycleReqs_of_not_mayEmit {selected : Bool} {i : Instr} (h : RunsIf p selected i s t)
    (hnot : ¬ MayEmit i s t) : t.cycleReqs = s.cycleReqs :=
  h.cycleReqs_or_emitsOne.resolve_right fun ⟨_, hmay⟩ => hnot hmay

/-- The ticks emit nothing, and when the command emits a request, it leaves the mode IDLE, in which the `STEP` of
the same cycle emits none (R103). -/
theorem runOps_decodeInputs_cycleReqs_length_le {inp : Inputs} (hnone : s.cycleReqs = [])
    (h : runOps (execFor p) (decodeInputs p inp) s = .next t) : t.cycleReqs.length ≤ 1 := by
  obtain ⟨a, b, c, d, hfast, hslow, hcmd, hstep, hrun⟩ := runOps_decodeInputs_stages p inp s
  rw [hrun] at h; cases h
  have ha : a.cycleReqs = [] := (hfast.cycleReqs_of_not_mayEmit not_mayEmit_fastTick).trans hnone
  have hb : b.cycleReqs = [] := (hslow.cycleReqs_of_not_mayEmit not_mayEmit_slowTick).trans ha
  obtain hc | ⟨hone, hmay⟩ := hcmd.cycleReqs_or_emitsOne
  · obtain hd | ⟨hone, -⟩ := hstep.cycleReqs_or_emitsOne
    · rw [hd, hc, hb]; exact Nat.zero_le 1
    · exact hone.length_le (hc.trans hb)
  · have hidle : c.mode = .idle := hmay.idle_of_command (decodeCmd_isCommand p inp.cmd)
    rw [hstep.cycleReqs_of_not_mayEmit (not_mayEmit_step_of_idle hidle)]
    exact hone.length_le hb

end Requests

/-- Settles O13: a cycle begins with no request and runs in its four stages, of which one at most emits; reset
emits none. -/
theorem atMostOneRequestPerCycle : Obligations.AtMostOneRequestPerCycle := by
  refine ⟨fun p s t h => ?_,
    fun p i s t h hne => (execFor_cycleReqs_or_emitsOne h).resolve_left hne⟩
  obtain ⟨-, e⟩ | ⟨-, e⟩ := stepFor_cases p s
  · rw [e] at h; cases h
    exact Nat.zero_le 1
  · exact runOps_decodeInputs_cycleReqs_length_le (beginCycle_cycleReqs s) (e.symm.trans h)

end Sys2Proof.Machine

/-! SUPPORT. The obligations of spec/60_exceptions.md: every operation and every cycle is total (R105), an LED index
that names no LED is checked at the LED Output alone (R106), and a cycle that selects nothing holds the state
(R118), with the lemmas they are assembled from. -/

namespace Sys2Proof.Machine

/-! ### Totality -/

theorem execFor_total (p : Config.Params) (i : Instr) (s : State) :
    ∃ t, execFor p i s = .next t ∧ (t.cycleReqs = s.cycleReqs ∨ EmitsOne s t) ∧ t.pastReqs = s.pastReqs := by
  obtain ⟨t, h⟩ := execFor_next p i s
  obtain ⟨-, hpast, -⟩ := execFor_keeps_bookkeeping h
  exact ⟨t, h, (execFor_cycleReqs_or_emitsOne h).imp_right And.left, hpast⟩

/-- Settles O12: `exec` and `step` are `execFor` and `stepFor` at the defaults. -/
theorem everyOperationIsTotal : Obligations.EveryOperationIsTotal := by
  refine ⟨fun i s => ?_, fun s => ?_, execFor_total, stepFor_next⟩
  · rw [exec_eq]; exact execFor_total Config.params i s
  · rw [step_eq]; exact stepFor_next Config.params s

/-! ### A cycle that selects nothing -/

/-- With the four strobes low a sample selects no operation, whatever `cmd` is (R31, R118). -/
theorem decodeInputs_of_strobes_low (p : Config.Params) {inp : Inputs} (hfast : inp.fastTick = false)
    (hslow : inp.slowTick = false) (hstep : inp.stepEn = false) (hcmd : inp.cmdValid = false) :
    decodeInputs p inp = [] := by
  simp [decodeInputs, hfast, hslow, hstep, hcmd]

/-- Settles O16: the cycle is its bookkeeping alone. -/
theorem quietCycleHoldsTheState : Obligations.QuietCycleHoldsTheState := by
  intro p s inp rest hin hrst hfast hslow hstep hcmd
  refine ⟨beginCycle s, ?_, rfl, rfl, beginCycle_requests s⟩
  rw [stepFor_of_not_rst hin hrst, decodeInputs_of_strobes_low p hfast hslow hstep hcmd, runOps_nil]

/-! ### An index that names no LED -/

section LedIndex

variable (p : Config.Params) (th : Nat) (s : State)

theorem commandLed_ledOut_of_no_led {idx : Nat} (lit : Bool) (hidx : 4 ≤ idx) :
    (s.commandLed idx lit).ledOut = s.ledOut := by
  by_cases h : s.onState = lit
  · rw [commandLed_of_eq s idx lit h]
  · rw [commandLed_of_ne s idx lit h]
    exact writeLed_no_led s.ledOut lit hidx

theorem applyOp_ledOut_of_no_led {idx : Nat} (hidx : 4 ≤ idx) : (applyOp p idx th s).ledOut = s.ledOut := by
  obtain ⟨-, e⟩ | ⟨-, -, e⟩ | ⟨-, -, e⟩ := applyOp_regions p th s idx
  · rw [e, commandLed_ledOut_of_no_led s true hidx]
  · rw [e, commandLed_ledOut_of_no_led s false hidx]
  · rw [e, setFc_ledOut]

/-- `t` and `u` agree on `ON`, `FC` and the number of the cycle's requests; the index of a request, `LEDSEL` and
`LED_OUT` may differ. -/
structure AgreeButForLed (t u : State) : Prop where
  onState : u.onState = t.onState
  fc : u.fc = t.fc
  reqCount : u.cycleReqs.length = t.cycleReqs.length

theorem agreeButForLed_commandLed (idx led : Nat) (lit : Bool) :
    AgreeButForLed (s.commandLed idx lit) ((s.setLedsel led).commandLed led lit) := by
  refine ⟨rfl, rfl, ?_⟩
  by_cases h : s.onState = lit
  · rw [commandLed_of_eq s idx lit h, commandLed_of_eq (s.setLedsel led) led lit h, setLedsel_cycleReqs]
  · rw [commandLed_of_ne s idx lit h, commandLed_of_ne (s.setLedsel led) led lit h]
    simp [setledOp_eq]

/-- The index decides neither the region of `APPLY` nor whether a request is emitted (R70, R75). -/
theorem agreeButForLed_applyOp (idx led : Nat) :
    AgreeButForLed (applyOp p idx th s) (applyOp p led th (s.setLedsel led)) := by
  obtain ⟨ht, e⟩ | ⟨ht, hfc, e⟩ | ⟨ht, hfc, e⟩ := applyOp_regions p th s idx
  · rw [e, applyOp_of_below led (by exact ht)]
    exact agreeButForLed_commandLed s idx led true
  · rw [e, applyOp_of_between led (by exact ht) (by exact hfc)]
    exact agreeButForLed_commandLed s idx led false
  · rw [e, applyOp_of_wrap led (by exact ht) (by exact hfc)]
    exact ⟨rfl, rfl, rfl⟩

theorem agreeButForLed_stepOp (led : Nat) : AgreeButForLed (stepOp p s) (stepOp p (s.setLedsel led)) := by
  by_cases hidle : s.mode = .idle
  · rw [stepOp_of_idle p hidle, stepOp_of_idle p (s := s.setLedsel led) hidle]
    exact ⟨rfl, rfl, rfl⟩
  · obtain ⟨th, hth⟩ := exists_effectiveThreshold hidle
    obtain ⟨ramp, dir, sc, e⟩ := stepOp_of_effectiveThreshold p hth
    obtain ⟨ramp', dir', sc', e'⟩ := stepOp_of_effectiveThreshold p (s := s.setLedsel led) hth
    obtain ⟨hon, hfc, hcount⟩ := agreeButForLed_applyOp p th s s.ledsel led
    rw [e, e']
    exact ⟨hon, hfc, hcount⟩

end LedIndex

/-- A driver on an LED index that names no LED leaves `LED_OUT`: its polls do, and nothing else writes it. -/
theorem execFor_ledOut_of_no_led {p : Config.Params} {i : Instr} {s t : State} (hrun : s.mode ≠ .idle)
    (hled : 4 ≤ s.ledsel) (h : execFor p i s = .next t) : t.ledOut = s.ledOut := by
  obtain ⟨-, hkeep⟩ | rfl := execFor_of_running hrun h
  · exact hkeep.ledOut
  · obtain ⟨th, hth⟩ := exists_effectiveThreshold hrun
    obtain ⟨ramp, dir, sc, e⟩ := stepOp_of_effectiveThreshold p hth
    rw [e]
    exact applyOp_ledOut_of_no_led p th s hled

/-- Settles O28: the index is looked at in `writeLed` alone. -/
theorem missingLedIsIgnoredAtTheOutputOnly : Obligations.MissingLedIsIgnoredAtTheOutputOnly := by
  refine ⟨fun p i s t hrun hled h => execFor_ledOut_of_no_led hrun hled h, fun p s led => ?_,
    fun p led lit s hidle hled => ?_⟩
  · obtain ⟨hon, hfc, hcount⟩ := agreeButForLed_stepOp p s led
    exact ⟨stepOp p s, stepOp p (s.setLedsel led), rfl, rfl, hon, hfc, hcount⟩
  · rw [execFor_setled, setledCommand_of_idle led lit hidle, setledOp_eq, writeLed_no_led s.ledOut lit hled]

end Sys2Proof.Machine

/-! SUPPORT. The obligations of spec/70_reset_and_hazards.md: reset (R120, R122), the values at a driver start
(R124), the windows in which neither counter overflows (R127, R129), and the LEDs that a running driver does not
drive (R130), with the lemmas they are assembled from. -/

namespace Sys2Proof.Machine

/-! ### Reset -/

/-- Settles O15: `State.reset` is written with these values. -/
theorem resetStateRegisters : Obligations.ResetStateRegisters :=
  ⟨rfl, rfl, rfl, rfl, rfl, rfl, rfl, rfl, rfl, rfl⟩

/-- The registers after a reset are those of `ResetState`, whatever they were. -/
@[simp] theorem resetRegs_regs (s : State) : (resetRegs s).regs = State.reset.regs := rfl

/-- A reset keeps the record of the requests (log entry 9). -/
@[simp] theorem resetRegs_requests (s : State) : (resetRegs s).requests = s.requests := rfl

/-- Cycles with `rst` = 1 add no request and, unless there are none, give `ResetState`: the first from any state,
and the later ones keep it. -/
theorem run_of_rst_held {p : Config.Params} {held rest : List Inputs} {s : State}
    (hrst : ∀ inp ∈ held, inp.rst = true) (hin : s.inputs = held ++ rest)
    (hregs : held = [] → s.regs = State.reset.regs) :
    ∃ t : State, (coreFor p).run held.length s = .next t ∧ t.regs = State.reset.regs ∧
      t.requests = s.requests ∧ t.inputs = rest := by
  induction held generalizing s with
  | nil => exact ⟨s, rfl, hregs rfl, rfl, hin⟩
  | cons inp held ih =>
    have hstep := stepFor_of_rst (p := p) hin (hrst inp List.mem_cons_self)
    have hin' : (resetRegs (beginCycle s)).inputs = held ++ rest := by simp [hin]
    obtain ⟨t, hrun, ht, hreqs, hrest⟩ :=
      ih (fun i hi => hrst i (List.mem_cons_of_mem inp hi)) hin' (fun _ => resetRegs_regs _)
    refine ⟨t, ?_, ht, ?_, hrest⟩
    · rw [List.length_cons, coreFor_run_of_step held.length hstep, hrun]
    · rw [hreqs, resetRegs_requests, beginCycle_requests]

/-- Settles O14: a cycle with `rst` = 1 is a reset after the bookkeeping, and so is each of the cycles it is held
for. -/
theorem resetHasPriorityAndRestoresResetState : Obligations.ResetHasPriorityAndRestoresResetState := by
  refine ⟨fun p s inp rest hin hrst => ?_, fun p n held inp rest s hlen hheld hin => ?_⟩
  · refine ⟨_, stepFor_of_rst hin hrst, rfl, rfl, rfl, rfl, rfl, rfl, rfl, rfl, rfl, ?_, rfl, ?_⟩
    · simp [hin]
    · rw [resetRegs_requests, beginCycle_requests]
  · have hne : held = [] → s.regs = State.reset.regs := fun hnil => by simp [hnil] at hlen
    obtain ⟨t, hrun, ht, hreqs, hrest⟩ := run_of_rst_held (p := p) hheld hin hne
    rw [hlen] at hrun
    exact ⟨t, hrun, ht, hreqs, hrest, stepFor_of_not_rst hrest⟩

/-! ### The driver start -/

/-- Settles O42: only an accepted `GLOW` or `PULSE` leaves mode IDLE, and each writes its own registers. -/
theorem driverStartValues : Obligations.DriverStartValues := by
  intro p i s t hidle h hrun
  obtain hstay | ⟨led, th, rfl, -⟩ | ⟨led, rfl, -⟩ := execFor_mode_of_idle hidle h
  · exact absurd hstay hrun
  · cases h
    obtain ⟨-, -, e⟩ | ⟨-, e⟩ := glowStart_cases p led th s
    · rw [e]; exact ⟨rfl, rfl, rfl, rfl, .inl ⟨led, th, rfl, rfl⟩⟩
    · rw [e] at hrun; exact absurd hidle hrun
  · cases h
    rw [pulseStart_of_idle led hidle]
    exact ⟨rfl, rfl, rfl, rfl, .inr ⟨led, rfl, rfl, rfl⟩⟩

/-! ### The counters within the step window -/

/-- As long as the sum stays below the bound, `n` runs of an operation that adds `inc` to a counter add
`inc * n`. -/
theorem runOps_replicate_counts {p : Config.Params} {i : Instr} {counter : State → Nat} {inc bound : Nat}
    (htick : ∀ u, counter u + inc < bound → ∃ v, execFor p i u = .next v ∧ counter v = counter u + inc)
    (n : Nat) {s : State} (hroom : counter s + inc * n < bound) :
    ∃ t, runOps (execFor p) (List.replicate n i) s = .next t ∧ counter t = counter s + inc * n := by
  induction n generalizing s with
  | zero => exact ⟨s, rfl, rfl⟩
  | succ n ih =>
    rw [Nat.mul_succ] at hroom ⊢
    obtain ⟨u, hu, hcount⟩ := htick s (by omega)
    obtain ⟨t, hrun, ht⟩ := ih (s := u) (by omega)
    refine ⟨t, ?_, by omega⟩
    rw [List.replicate_succ, runOps_cons, hu, andThen_next, hrun]

/-- A running driver's threshold is at most `PERIOD` by R22, whichever register holds it (R20). -/
theorem RegsInv.effectiveThreshold_le {p : Config.Params} {s : State} {th : Nat} (hs : RegsInv p s)
    (hth : s.effectiveThreshold = some th) : th ≤ p.period := by
  unfold State.effectiveThreshold at hth
  cases hmode : s.mode with
  | idle => rw [hmode] at hth; cases hth
  | glow => rw [hmode] at hth; cases hth; exact hs.gth_le
  | pulse => rw [hmode] at hth; cases hth; exact hs.ramp_le

/-- `APPLY` leaves `FC` below `PERIOD`: it was there, or it is wrapped to 0. -/
theorem applyOp_fc_lt_period {p : Config.Params} {idx th : Nat} {s : State} (hth : th ≤ p.period)
    (hperiod : 1 ≤ p.period) : (applyOp p idx th s).fc < p.period := by
  obtain ⟨hlt, e⟩ | ⟨-, hlt, e⟩ | ⟨-, -, e⟩ := applyOp_regions p th s idx
  · rw [e]; exact hlt.trans_le hth
  · rw [e]; exact hlt
  · rw [e]; exact hperiod

theorem stepOp_fc_lt_period {p : Config.Params} {s : State} (hs : RegsInv p s) (hrun : s.mode ≠ .idle)
    (hperiod : 1 ≤ p.period) : (stepOp p s).fc < p.period := by
  obtain ⟨th, hth⟩ := exists_effectiveThreshold hrun
  obtain ⟨ramp, dir, sc, e⟩ := stepOp_of_effectiveThreshold p hth
  rw [e]
  exact applyOp_fc_lt_period (hs.effectiveThreshold_le hth) hperiod

/-- Settles O58: the poll leaves `FC` below `PERIOD`, and the ticks have the room up to `2^FC_WIDTH`. -/
theorem fcCannotOverflowWithinTheStepWindow : Obligations.FcCannotOverflowWithinTheStepWindow := by
  refine ⟨fun p s t hlegal hs hrun h => ?_, fun p n s hlegal hn hfc => ?_, rfl⟩
  · obtain ⟨hperiod, -⟩ := Laws.legal_bounds hlegal
    cases h
    exact Nat.le_sub_one_of_lt (stepOp_fc_lt_period hs hrun hperiod)
  · obtain ⟨hperiod, -, -, hfits, -⟩ := Laws.legal_bounds hlegal
    obtain ⟨t, hrun, ht⟩ := runOps_replicate_counts (p := p) (i := .fastTick) (counter := State.fc)
      (fun u hroom => ⟨fastTickOp p u, rfl, bumpFc_of_lt hroom⟩) n (s := s) (by omega)
    exact ⟨t, hrun, by rw [ht, Nat.one_mul]⟩

/-- A `STEP` in mode PULSE leaves `SC` short of the gate: it was, or the passed gate consumes it (R90). -/
theorem stepOp_sc_lt_pulseRate {p : Config.Params} {s : State} (hmode : s.mode = .pulse)
    (hrate : 1 ≤ p.pulseRate) : (stepOp p s).sc < p.pulseRate := by
  obtain hclosed | hopen := Nat.lt_or_ge s.sc p.pulseRate
  · rw [stepOp_of_gate_closed hmode hclosed, applyOp_sc]; exact hclosed
  · rw [stepOp_of_gate_open hmode hopen]; exact hrate

/-- Settles O59: the poll leaves `SC` below `PULSE_RATE`, and the ticks have the room up to `2^SC_WIDTH`. -/
theorem scCannotOverflowWithinTheStepWindow : Obligations.ScCannotOverflowWithinTheStepWindow := by
  refine ⟨fun p s t hlegal hmode h => ?_, fun p n s hlegal hn hsc => ?_, rfl⟩
  · obtain ⟨-, hrate, -⟩ := Laws.legal_bounds hlegal
    cases h
    exact Nat.le_sub_one_of_lt (stepOp_sc_lt_pulseRate hmode hrate)
  · obtain ⟨-, hrate, hinc, -, hfits, -⟩ := Laws.legal_bounds hlegal
    have hticks : n * p.slowInc ≤ 2 ^ p.scWidth - p.pulseRate := (Nat.le_div_iff_mul_le hinc).mp hn
    rw [Nat.mul_comm] at hticks
    exact runOps_replicate_counts (fun u hroom => ⟨slowTickOp p u, rfl, bumpSc_of_lt hroom⟩) n (by omega)

/-! ### The LEDs that the running driver does not drive -/

/-- From `s` to `t` no LED but `idx` was switched. -/
def KeepsOtherLeds (idx : Nat) (s t : State) : Prop :=
  ∀ j < 4, j ≠ idx → t.ledOut.getLsbD j = s.ledOut.getLsbD j

section OtherLeds

variable {p : Config.Params} {s t u : State}

theorem keepsOtherLeds_of_eq (idx : Nat) (h : t.ledOut = s.ledOut) : KeepsOtherLeds idx s t :=
  fun j _ _ => congrArg (BitVec.getLsbD · j) h

theorem KeepsOtherLeds.trans {idx : Nat} (hst : KeepsOtherLeds idx s t) (htu : KeepsOtherLeds idx t u) :
    KeepsOtherLeds idx s u := fun j hj hne => (htu j hj hne).trans (hst j hj hne)

theorem keepsOtherLeds_setledOp (idx : Nat) (lit : Bool) (s : State) :
    KeepsOtherLeds idx s (setledOp idx lit s) := fun j hj hne => by
  rw [setledOp_ledOut_getLsbD idx lit s hj, if_neg hne]

theorem keepsOtherLeds_applyOp (p : Config.Params) (idx th : Nat) (s : State) :
    KeepsOtherLeds idx s (applyOp p idx th s) := by
  obtain ⟨-, -, e⟩ | ⟨-, -, e⟩ | ⟨-, -, -, e⟩ | ⟨-, -, -, e⟩ | ⟨-, -, e⟩ := applyOp_cases p idx th s
  · rw [e]; exact keepsOtherLeds_of_eq idx rfl
  · rw [e]; exact keepsOtherLeds_setledOp idx true (s.setOn true)
  · rw [e]; exact keepsOtherLeds_of_eq idx rfl
  · rw [e]; exact keepsOtherLeds_setledOp idx false (s.setOn false)
  · rw [e]; exact keepsOtherLeds_of_eq idx rfl

/-- While a driver runs, the one write of `LED_OUT` is its poll's, at `LEDSEL`. -/
theorem execFor_keepsOtherLeds {i : Instr} (hrun : s.mode ≠ .idle) (h : execFor p i s = .next t) :
    KeepsOtherLeds s.ledsel s t := by
  obtain ⟨-, hkeep⟩ | rfl := execFor_of_running hrun h
  · exact keepsOtherLeds_of_eq s.ledsel hkeep.ledOut
  · obtain ⟨th, hth⟩ := exists_effectiveThreshold hrun
    obtain ⟨ramp, dir, sc, e⟩ := stepOp_of_effectiveThreshold p hth
    rw [e]
    exact keepsOtherLeds_applyOp p s.ledsel th s

end OtherLeds

/-- Since `s` the same driver has run, and has left every LED but its own alone (R130). -/
structure DrivesOneLed (s t : State) : Prop where
  driver : SameDriver s t
  others : KeepsOtherLeds s.ledsel s t

theorem DrivesOneLed.execFor {p : Config.Params} {i : Instr} {s u v : State} (hu : DrivesOneLed s u)
    (hrun : s.mode ≠ .idle) (h : execFor p i u = .next v) : DrivesOneLed s v := by
  have hrun' : u.mode ≠ .idle := hu.driver.running hrun
  have hothers := execFor_keepsOtherLeds hrun' h
  rw [hu.driver.ledsel] at hothers
  exact ⟨hu.driver.trans (execFor_sameDriver hrun' h), hu.others.trans hothers⟩

/-- Settles O35: `DrivesOneLed` holds at the start, and neither the bookkeeping nor an operation ends it. -/
theorem otherLedsKeepWhatTheHostSet : Obligations.OtherLedsKeepWhatTheHostSet := by
  intro p k s hrun hno
  obtain ⟨t, ht, hone⟩ := run_keeps_of_noReset (p := p) (P := DrivesOneLed s)
    (fun u hu => ⟨⟨hu.driver.mode, hu.driver.ledsel, hu.driver.gth⟩, hu.others⟩)
    (fun i u v hu h => hu.execFor hrun h) k
    ⟨SameDriver.refl s, keepsOtherLeds_of_eq s.ledsel rfl⟩ hno
  exact ⟨t, ht, hone.others⟩

end Sys2Proof.Machine
